-- ==== Sys2Proof/Word.lean ====
section
/-! DEFINITION. The two word types of the host port: the byte that crosses the SPI lines and the seven-bit address
of the register window (R182, R183). Everything that takes words apart is in Machine/, where a repair can reach it. -/

namespace Sys2Proof

/-- A byte of the register window. -/
abbrev Byte := BitVec 8

/-- An address of the 128-byte register window (R182: bits 6 to 0 of the address byte). -/
abbrev Addr := BitVec 7

end Sys2Proof
end

