-- ==== Sys2Proof/Syntax.lean ====
section
/-! DEFINITION. The commands of the WS-2416: one constructor of `Instr` per row of spec/opcode_table.json, with the
operands the row's rule needs. A command written to CMD takes its arguments from PARAM (R192), so it has none here. -/

namespace Sys2Proof

/-- The staging bytes of the host port (R186). -/
inductive StagedByte where
  | scanCountLow
  | scanIntervalLow
  | windowMaxLow
  | windowMaxMid
deriving DecidableEq, Repr

/-- The four values read through snapshot bytes (R187). -/
inductive SnapReg where
  | scansRemaining
  | scanSeq
  | liveMc
  | liveWc
deriving DecidableEq, Repr

/-- What a data byte does at an address that has no row of its own (R185). -/
inductive Access where
  | read
  | write (v : Byte)
deriving DecidableEq, Repr

/-- The 23 commands of the command table (10.6). -/
inductive Command where
  | startSingle | startTimed | armTrigger | stop | abort | resetEngine
  | setLength | writeEntry | readEntry | commit
  | writeChannel | readChannel | writeReference | readReference
  | preloadWindow | readCache | invalidateCache
  | spot | cancelSpot | flushFifo | writeSlot | readSlot | setClock
deriving DecidableEq, Repr

/-- One row of spec/opcode_table.json each. -/
inductive Instr where
  /-- START_SINGLE written to CMD (R71). -/
  | startSingle
  /-- START_TIMED written to CMD (R72). -/
  | startTimed
  /-- ARM_TRIGGER written to CMD (R73). -/
  | armTrigger
  /-- STOP written to CMD (R93). -/
  | stop
  /-- ABORT written to CMD (R94, R95). -/
  | abort
  /-- RESET_ENGINE written to CMD (R193). -/
  | resetEngine
  /-- SET_LENGTH written to CMD (R55). -/
  | setLength
  /-- WRITE_ENTRY written to CMD (R54). -/
  | writeEntry
  /-- READ_ENTRY written to CMD (R57). -/
  | readEntry
  /-- COMMIT written to CMD (R59). -/
  | commit
  /-- WRITE_CHANNEL written to CMD (R29). -/
  | writeChannel
  /-- READ_CHANNEL written to CMD (R31). -/
  | readChannel
  /-- WRITE_REFERENCE written to CMD (R33). -/
  | writeReference
  /-- READ_REFERENCE written to CMD (R35). -/
  | readReference
  /-- PRELOAD_WINDOW written to CMD (R41). -/
  | preloadWindow
  /-- READ_CACHE written to CMD (R47). -/
  | readCache
  /-- INVALIDATE_CACHE written to CMD (R46). -/
  | invalidateCache
  /-- SPOT written to CMD (R104, R105). -/
  | spot
  /-- CANCEL_SPOT written to CMD (R107). -/
  | cancelSpot
  /-- FLUSH_FIFO written to CMD (R127). -/
  | flushFifo
  /-- WRITE_SLOT written to CMD (R137, R138). -/
  | writeSlot
  /-- READ_SLOT written to CMD (R139). -/
  | readSlot
  /-- SET_CLOCK written to CMD (R171). -/
  | setClock
  /-- A code that names no command, written to CMD (R190). -/
  | unknownCommand (code : Byte)
  /-- CS_N falls (R182). -/
  | frameStart
  /-- The eighth bit of the address byte is received (R182). -/
  | addressByte (b : Byte)
  /-- CS_N rises (R182), right after `reads` further data bytes of a read frame (R183; log 6). -/
  | frameEnd (reads : Nat)
  /-- A read of 0x30 (R122). -/
  | resultByte0Read
  /-- A read of 0x3F (R124). -/
  | resultByte15Read
  /-- A read of 0x40 (R159). -/
  | eventByte0Read
  /-- A read of 0x47 (R161). -/
  | eventByte7Read
  /-- A read of 0x50 (R109). -/
  | spotByte0Read
  /-- A read of the low byte of a snapshotted value (R187). -/
  | snapshotLowByteRead (r : SnapReg)
  /-- A write of a less significant byte of a staged register (R186). -/
  | stagingByteWrite (which : StagedByte) (v : Byte)
  /-- A write of 0x09 (R69, R186). -/
  | scanCountWrite (v : Byte)
  /-- A write of 0x0B (R177, R186). -/
  | scanIntervalWrite (v : Byte)
  /-- A write of 0x18 (R173, R186). -/
  | windowMaxWrite (v : Byte)
  /-- A write of 0x06 (R68, R189). -/
  | scanCtrlWrite (v : Byte)
  /-- A write of 0x07 (R130). -/
  | fifoThresholdWrite (v : Byte)
  /-- A write of 0x14 (R39). -/
  | cacheMaxAgeWrite (v : Byte)
  /-- A write of 0x12 (R165). -/
  | attnFlagsWrite (v : Byte)
  /-- A write of 0x13 (R167). -/
  | attnEnableWrite (v : Byte)
  /-- An access of an address with no row of its own: a write (R185, R192), or a plain read, whose rule is R185 too
  (log 6). -/
  | registerWrite (a : Addr) (x : Access)
  /-- RST_N falls (R194). -/
  | hardReset
  /-- RST_N rises (R194). -/
  | resetRelease
  /-- The supply rises above (`true`) or falls below (`false`) the power-on threshold (R195). -/
  | powerOnReset (above : Bool)
  /-- TRIG changes to high (`true`) or low (`false`) (R179). -/
  | trigEdge (high : Bool)
  /-- The LF period boundary that ends a scan-timer unit (R174). -/
  | scanTimerUnit
  /-- The LF period boundary that ends the last remaining unit (R176). -/
  | scanTimerExpiry
  /-- The arbiter grants the unit to a waiting request (R99). -/
  | grant
  /-- The period boundary at which the reference settle expires (R6). -/
  | refSettleExpiry
  /-- The first reference edge in REF_COUNT (R8). -/
  | openingEdge
  /-- The period boundary that would take WC past the window limit (R8, R10). -/
  | refTimeout
  /-- The reference edge that brings MC to N_ref (R9). -/
  | referenceComplete
  /-- The period boundary at which the channel settle expires (R7). -/
  | snsSettleExpiry
  /-- The period boundary that brings WC to floor(W/2) on an AC channel (R13). -/
  | firstHalfEnd
  /-- The period boundary that brings WC to W (R12, R13). -/
  | windowEnd
  /-- The sensor edge that would take MC past full scale (R14). -/
  | sensorOverrange
  /-- A held start is attempted again (R77). -/
  | heldStartRetry
  /-- A held record is offered again (R83). -/
  | heldRecordReoffer
  /-- A latched trigger is taken up after a scan end (R89). -/
  | pendingTriggerStart
  /-- The swap of the scan list is claimed (R61, R62). -/
  | swap
  /-- A period boundary of the selected source (R6 to R13, R170). -/
  | periodBoundary
  /-- An edge of the measuring oscillator (R8 to R14). -/
  | oscillatorEdge
  /-- An LF period boundary at the scan timer (R174). -/
  | lfPeriodBoundary
deriving DecidableEq, Repr

end Sys2Proof
end

