-- ==== Sys2Proof/Decode.lean ====
section
/-! DEFINITION. What a word spells. The rows of spec/opcode_table.json give no bits, so no word spells a command
(log 19). The command codes of 10.6, which the CMD register decodes, stand here too. -/

namespace Sys2Proof

/-- The command a word spells by the table's bits: no row of the table has bits (log 19). -/
def decodeTableWord (_nbits _w : Nat) : Option Instr := none

/-- The command codes (10.6). -/
def Command.code : Command → Byte
  | .startSingle => 0x01#8
  | .startTimed => 0x02#8
  | .armTrigger => 0x03#8
  | .stop => 0x04#8
  | .abort => 0x05#8
  | .resetEngine => 0x0F#8
  | .setLength => 0x10#8
  | .writeEntry => 0x11#8
  | .readEntry => 0x12#8
  | .commit => 0x13#8
  | .writeChannel => 0x20#8
  | .readChannel => 0x21#8
  | .writeReference => 0x22#8
  | .readReference => 0x23#8
  | .preloadWindow => 0x28#8
  | .readCache => 0x29#8
  | .invalidateCache => 0x2A#8
  | .spot => 0x30#8
  | .cancelSpot => 0x31#8
  | .flushFifo => 0x38#8
  | .writeSlot => 0x40#8
  | .readSlot => 0x41#8
  | .setClock => 0x48#8

/-- Every command, in the order of the command table (10.6). -/
def Command.all : List Command :=
  [.startSingle, .startTimed, .armTrigger, .stop, .abort, .resetEngine, .setLength, .writeEntry, .readEntry,
   .commit, .writeChannel, .readChannel, .writeReference, .readReference, .preloadWindow, .readCache,
   .invalidateCache, .spot, .cancelSpot, .flushFifo, .writeSlot, .readSlot, .setClock]

/-- The command a byte written to CMD names, if it names one (R190). -/
def commandOfCode (b : Byte) : Option Command :=
  Command.all.find? (fun c => c.code == b)

/-- The bytes of the register window, numbered (10.5): the address of a staging byte (R186). -/
def StagedByte.addr : StagedByte → Addr
  | .scanCountLow => 0x08#7
  | .scanIntervalLow => 0x0A#7
  | .windowMaxLow => 0x16#7
  | .windowMaxMid => 0x17#7

/-- The address of the low byte of a snapshotted value (R187). -/
def SnapReg.addr : SnapReg → Addr
  | .scansRemaining => 0x0C#7
  | .scanSeq => 0x0E#7
  | .liveMc => 0x1A#7
  | .liveWc => 0x1D#7

end Sys2Proof
end

