-- ==== Sys2Proof/Config.lean ====
section
/-! DEFINITION. The numbers the part fixes (00_scope.md, "Quantities at a glance"). The spec leaves no value of this
part open, so this file holds no uninterpreted constant (INVENTORY.md, "What the manual leaves open"). -/

namespace Sys2Proof.Config

/-- MC, WC, W, ratio and limit-bound full scale (R14, R18, R134). -/
abbrev fullScale : Nat := 16777215

/-- The result FIFO's places (R112). -/
abbrev fifoCapacity : Nat := 32

/-- The event queue's places (R153). -/
abbrev eventCapacity : Nat := 16

/-- The window cache's slots (R36). -/
abbrev cacheSlots : Nat := 8

/-- The largest age a cache slot holds (R36, R42). -/
abbrev maxAge : Nat := 15

/-- The shortest valid window (R9). -/
abbrev minWindow : Nat := 16

/-- The skip tally saturates here (R65). -/
abbrev maxSkips : Nat := 255

/-- LF periods in one scan-timer unit (R174). -/
abbrev unitPeriods : Nat := 32

end Sys2Proof.Config
end

