-- ==== Sys2Proof/Machine/State.lean ====
section
/-! DEFINITION. Everything the spec gives the WS-2416 to hold, block by block, as plain data, and its value after a
reset. A value whose type already keeps its range (a channel index, a target code) carries the range in the type; the
ranges of the other counts are invariants (Sys2Proof/Safety.lean). -/

namespace Sys2Proof.Machine

/-! ### Measurements -/

/-- Who asks for the conversion unit (R2, R98). -/
inductive Requester where
  | scan
  | spot
deriving DecidableEq, Repr

/-- The five parameters of a request (R2, R98). -/
structure Request where
  channel : Fin 16
  reference : Fin 4
  target : Fin 13
  repeatCode : Fin 4
  fresh : Bool
deriving DecidableEq, Repr

/-- A channel record (R28). -/
structure Channel where
  enabled : Bool
  ac : Bool
  settle : BitVec 8
  minCount : BitVec 16
  imbalance : BitVec 8
deriving DecidableEq, Repr

/-- A reference record (R32). -/
structure Reference where
  settle : BitVec 8
  generation : BitVec 8
deriving DecidableEq, Repr

/-- The step of the measurement in progress (01, section 1.1). REF_COUNT says whether the opening edge has
arrived (R8); both read as REF_COUNT in CONV_STATE. -/
inductive Phase where
  | idle
  | refSettle
  | refCount (opened : Bool)
  | snsSettle
  | snsCount
  | snsCountB
deriving DecidableEq, Repr

/-- What is in the oscillator loop (R1). -/
inductive OscSel where
  | parked
  | reference (r : Fin 4)
  | channel (c : Fin 16)
deriving DecidableEq, Repr

/-- Direction of sensor excitation (R1). -/
inductive Polarity where
  | a
  | b
deriving DecidableEq, Repr

/-- The warnings of a measurement (R19). -/
structure Warnings where
  imbalance : Bool
  cached : Bool
  ratioSat : Bool
deriving DecidableEq, Repr

/-- No warning raised (R2). -/
def Warnings.none : Warnings := { imbalance := false, cached := false, ratioSat := false }

/-- How a measurement ended (R19). -/
inductive Status where
  | ok
  | refTimeout
  | windowShort
  | sensorOverrange
  | sensorUnderrange
  | channelDisabled
  | cancelled
deriving DecidableEq, Repr

/-- What the unit hands its owner (R19). -/
structure Result where
  status : Status
  warnings : Warnings
  ratioValid : Bool
  window : Nat
  count : Nat
  ratio : Nat
deriving DecidableEq, Repr

/-- The conversion unit (01, section 1.1). -/
structure ConvUnit where
  phase : Phase
  owner : Option Requester
  request : Request
  chan : Channel
  ref : Reference
  windowLimit : BitVec 24
  osc : OscSel
  polarity : Polarity
  mc : Nat
  wc : Nat
  window : Option Nat
  repIndex : Nat
  n1 : Nat
  acc : Nat
  warnings : Warnings
deriving DecidableEq, Repr

/-- The oscillator arbiter (R98). -/
structure Arbiter where
  holder : Option Requester
  lastGrant : Requester
  scanReq : Option Request
  spotReq : Option Request
deriving DecidableEq, Repr

/-! ### Records -/

/-- A MEASUREMENT record (R80), and a SPOT record (R106), which has the same fields. -/
structure MeasRecord where
  status : Status
  warnings : Warnings
  ratioValid : Bool
  entryIndex : Fin 32
  tag : Byte
  channel : Fin 16
  reference : Fin 4
  repeatCode : Fin 4
  seq : BitVec 16
  window : Nat
  count : Nat
  ratio : Nat
deriving DecidableEq, Repr

/-- How a scan ended (R88). -/
inductive Termination where
  | complete
  | faulted
  | aborted
deriving DecidableEq, Repr

/-- A SCAN_END record (R88). -/
structure ScanEndRecord where
  termination : Termination
  seq : BitVec 16
  measured : Nat
  faults : Nat
  discarded : Nat
  skipped : Nat
deriving DecidableEq, Repr

/-- A record of the result FIFO (R112, R114). -/
inductive FifoRecord where
  | measurement (r : MeasRecord)
  | scanEnd (r : ScanEndRecord)
deriving DecidableEq, Repr

/-- Where a slot judges the ratio to lie (R134): IN_BAND, LOW or HIGH. UNKNOWN is the absence of a judgment, so a
slot's state is an `Option Band`. A change under way names the band it leads to: TO_BAND, TO_LOW, TO_HIGH. -/
inductive Band where
  | inBand
  | low
  | high
deriving DecidableEq, Repr

/-- An event record (R146, R155). Its kind is the band entered: RETURN_IN_BAND, ENTER_LOW, ENTER_HIGH. -/
structure EventRecord where
  kind : Band
  slot : Fin 16
  previous : Option Band
  entryIndex : Fin 32
  tag : Byte
  seq : BitVec 16
  ratio : Nat
deriving DecidableEq, Repr

/-! ### Spot port, cache, list -/

/-- The spot state (R103). -/
inductive SpotState where
  | none
  | waiting
  | running
deriving DecidableEq, Repr

/-- The spot port (R103). A window or latch of `none` holds the EMPTY record. -/
structure SpotPort where
  state : SpotState
  request : Request
  window : Option MeasRecord
  latch : Option MeasRecord
deriving DecidableEq, Repr

/-- A valid slot of the window cache (R36). -/
structure CacheSlot where
  reference : Fin 4
  target : Fin 13
  window : Nat
  age : Nat
deriving DecidableEq, Repr

/-- The window cache: its valid slots, most recent first (R36; the invalid slots are the rest, log 18), and the
register CACHE_MAX_AGE (R39). -/
structure Cache where
  slots : List CacheSlot
  maxAge : Nat
deriving DecidableEq, Repr

/-- An entry of the scan list (R51). -/
structure Entry where
  channel : Fin 16
  reference : Fin 4
  target : Fin 13
  repeatCode : Fin 4
  fresh : Bool
  slot : Option (Fin 16)
  tag : Byte
deriving DecidableEq, Repr

/-- A bank of the scan list (R50). -/
structure Bank where
  entries : Vector Entry 32
  length : Fin 33
deriving DecidableEq, Repr

/-- The two banks by letter (R50). -/
inductive BankId where
  | a
  | b
deriving DecidableEq, Repr

/-- The scan list (R50). -/
structure ScanList where
  bankA : Bank
  bankB : Bank
  active : BankId
  pendingFlag : Bool
deriving DecidableEq, Repr

/-! ### Scan controller -/

/-- What the controller does, its hold reason included (R65). -/
inductive EngineState where
  | idle
  | armed
  | scanning
  | holdStart
  | holdRecord
deriving DecidableEq, Repr

/-- The kind of run (R65). -/
inductive Mode where
  | single
  | timed
  | triggered
deriving DecidableEq, Repr

/-- The fields of SCAN_CTRL (R68): policy DISCARD or STALL, FAULT_STOP on or off, TRIG polarity falling or rising. -/
structure ScanCtrl where
  discard : Bool
  faultStop : Bool
  falling : Bool
deriving DecidableEq, Repr

/-- The scan controller (R65) with its registers SCAN_CTRL (R68) and SCAN_COUNT (R69). -/
structure Controller where
  state : EngineState
  mode : Mode
  entryIndex : Fin 32
  seq : BitVec 16
  remaining : Nat
  stopRequested : Bool
  pendingTrigger : Bool
  skipTally : Nat
  measured : Nat
  faults : Nat
  discarded : Nat
  snapshot : ScanCtrl
  grantOutstanding : Bool
  held : Option MeasRecord
  scanCtrl : ScanCtrl
  scanCount : BitVec 16
deriving DecidableEq, Repr

/-! ### FIFO, limits, events, attention, time base -/

/-- The result FIFO (R112). A latch of `none` holds the EMPTY record. -/
structure ResultFifo where
  records : List FifoRecord
  reserved : Bool
  latch : Option FifoRecord
  consumed : Bool
  threshold : Nat
deriving DecidableEq, Repr

/-- A limit slot (R134): configuration and live state. -/
structure LimitSlot where
  enabled : Bool
  low : BitVec 24
  high : BitVec 24
  hysteresis : BitVec 24
  persistence : Nat
  state : Option Band
  pendingDir : Option Band
  pendingCount : Nat
deriving DecidableEq, Repr

/-- The event queue (R153). A latch of `none` holds the EMPTY record. -/
structure EventQueue where
  records : List EventRecord
  latch : Option EventRecord
  consumed : Bool
deriving DecidableEq, Repr

/-- The attention logic (R163): flags and enables by bit position. -/
structure Attention where
  flags : BitVec 8
  enables : BitVec 8
deriving DecidableEq, Repr

/-- The time-base source (R170). -/
inductive Source where
  | lf
  | hf
deriving DecidableEq, Repr

/-- The time base: source (R170), WINDOW_MAX (R173), the scan timer (R174) with SCAN_INTERVAL (R177), and the level
the TRIG edge detector last saw (R179). -/
structure TimeBase where
  source : Source
  windowMax : BitVec 24
  timerRunning : Bool
  timerRemaining : Nat
  prescaler : Nat
  scanInterval : BitVec 16
  trigLevel : Bool
deriving DecidableEq, Repr

/-! ### Host port and pins -/

/-- The frame state (10). -/
inductive FrameState where
  | idle
  | address
  | read
  | write
deriving DecidableEq, Repr

/-- The result codes (R191). -/
inductive CmdResult where
  | done
  | refusedState
  | badArg
  | listPending
  | emptyList
  | noRoom
  | busy
  | unknownCommand
deriving DecidableEq, Repr

/-- The host port (10). `misoByte` is the byte the part drives on MISO while a frame lasts (R184). -/
structure HostPort where
  frame : FrameState
  pointer : Addr
  stagedCount : Byte
  stagedInterval : Byte
  stagedMaxLow : Byte
  stagedMaxMid : Byte
  snapRemaining : BitVec 16
  snapSeq : BitVec 16
  snapMc : BitVec 24
  snapWc : BitVec 24
  param : Vector Byte 16
  cmd : Byte
  cmdResult : CmdResult
  cmdDetail : Byte
  misoByte : Byte
deriving DecidableEq, Repr

/-- The levels the outside drives on the pins the part watches (10, section 10.9): CS_N low, RST_N low, the supply
above the power-on threshold, TRIG high. -/
structure Pins where
  csLow : Bool
  rstLow : Bool
  supplyGood : Bool
  trigHigh : Bool
deriving DecidableEq, Repr

/-! ### The machine -/

/-- The whole part, the data bytes its current or last read frame has shifted out to the host (the model's own,
log 6), and the commands that wait, the oldest first. -/
structure State where
  conv : ConvUnit
  arb : Arbiter
  spot : SpotPort
  channels : Vector Channel 16
  references : Vector Reference 4
  cache : Cache
  list : ScanList
  ctl : Controller
  fifo : ResultFifo
  limits : Vector LimitSlot 16
  events : EventQueue
  attn : Attention
  time : TimeBase
  port : HostPort
  pins : Pins
  hostReceived : List Byte
  pending : List Instr
deriving DecidableEq, Repr

/-- The block raises no fault: a refused command completes with a result code (R191) and an ended measurement hands
over a status (R19). So no step of the model ends in a fault. -/
inductive Fault where
deriving DecidableEq, Repr

/-- The reasons a command has no meaning in the model. -/
inductive Refusal where
  /-- Raised by `exec`'s arm of a command the model does not give a meaning yet, with its mnemonic. Safe: the run
  stops where the hardware goes on. No arm raises it: every row has its meaning. -/
  | notModelled (mnemonic : String)
deriving DecidableEq, Repr

/-- What a command leaves: the part after it, and CMD_RESULT and CMD_DETAIL (R190). -/
structure Answer where
  state : State
  result : CmdResult
  detail : Byte
deriving DecidableEq, Repr

/-! ### Reset values -/

/-- A request with every field 0 (R103). -/
def Request.zero : Request := { channel := 0, reference := 0, target := 0, repeatCode := 0, fresh := false }

/-- A channel record's hard-reset value (R28). -/
def Channel.reset : Channel := { enabled := false, ac := false, settle := 16, minCount := 1, imbalance := 0 }

/-- A reference record's hard-reset value (R32, which the model follows against R37's last sentence; log 21). -/
def Reference.reset : Reference := { settle := 16, generation := 0 }

/-- The conversion unit after either reset (R26, R27). DESIGN CHOICE (log 8): R26 gives the request and the snapshots
no value. -/
def ConvUnit.reset : ConvUnit :=
  { phase := .idle, owner := none, request := Request.zero, chan := Channel.reset, ref := Reference.reset,
    windowLimit := 0xFFFFFF#24, osc := .parked, polarity := .a, mc := 0, wc := 0, window := none, repIndex := 1,
    n1 := 0, acc := 0, warnings := Warnings.none }

/-- The arbiter after either reset (R98). -/
def Arbiter.reset : Arbiter := { holder := none, lastGrant := .scan, scanReq := none, spotReq := none }

/-- The spot port after either reset (R103). -/
def SpotPort.reset : SpotPort := { state := .none, request := Request.zero, window := none, latch := none }

/-- The window cache after a hard reset (R37, R39). -/
def Cache.reset : Cache := { slots := [], maxAge := 4 }

/-- An entry's hard-reset value (R52). -/
def Entry.reset : Entry :=
  { channel := 0, reference := 0, target := 0, repeatCode := 0, fresh := false, slot := none, tag := 0 }

/-- A bank's hard-reset value (R52). -/
def Bank.reset : Bank := { entries := Vector.replicate 32 Entry.reset, length := 0 }

/-- The scan list after a hard reset (R52). -/
def ScanList.reset : ScanList := { bankA := Bank.reset, bankB := Bank.reset, active := .a, pendingFlag := false }

/-- SCAN_CTRL after a hard reset: STALL, FAULT_STOP off, rising (R66, R189). -/
def ScanCtrl.reset : ScanCtrl := { discard := false, faultStop := false, falling := false }

/-- The scan controller after a hard reset (R66). -/
def Controller.reset : Controller :=
  { state := .idle, mode := .single, entryIndex := 0, seq := 0, remaining := 0, stopRequested := false,
    pendingTrigger := false, skipTally := 0, measured := 0, faults := 0, discarded := 0,
    snapshot := ScanCtrl.reset, grantOutstanding := false, held := none, scanCtrl := ScanCtrl.reset,
    scanCount := 0 }

/-- The result FIFO after a hard reset (R113). -/
def ResultFifo.reset : ResultFifo :=
  { records := [], reserved := false, latch := none, consumed := true, threshold := 16 }

/-- A limit slot after a hard reset (R136). -/
def LimitSlot.reset : LimitSlot :=
  { enabled := false, low := 0, high := 0xFFFFFF#24, hysteresis := 0, persistence := 1, state := none,
    pendingDir := none, pendingCount := 0 }

/-- The event queue after either reset (R154). -/
def EventQueue.reset : EventQueue := { records := [], latch := none, consumed := true }

/-- The attention logic after a hard reset (R163). -/
def Attention.reset : Attention := { flags := 0, enables := 0 }

/-- The time base after a hard reset, but for the TRIG level, which the release sets (R172, R173, R174, R180). -/
def TimeBase.reset (trigLevel : Bool) : TimeBase :=
  { source := .lf, windowMax := 0xFFFFFF#24, timerRunning := false, timerRemaining := 0, prescaler := 0,
    scanInterval := 1024, trigLevel := trigLevel }

/-- The host port after a hard reset (R194). -/
def HostPort.reset : HostPort :=
  { frame := .idle, pointer := 0, stagedCount := 0, stagedInterval := 0, stagedMaxLow := 0, stagedMaxMid := 0,
    snapRemaining := 0, snapSeq := 0, snapMc := 0, snapWc := 0, param := Vector.replicate 16 0, cmd := 0,
    cmdResult := .done, cmdDetail := 0, misoByte := 0 }

/-- The part right after a hard reset has been released, with nothing waiting. DESIGN CHOICE (log 7): the levels on
the pins, which the spec leaves to the outside: supplied, RST_N and CS_N high, TRIG low. -/
def State.reset : State :=
  { conv := ConvUnit.reset, arb := Arbiter.reset, spot := SpotPort.reset,
    channels := Vector.replicate 16 Channel.reset, references := Vector.replicate 4 Reference.reset,
    cache := Cache.reset, list := ScanList.reset, ctl := Controller.reset, fifo := ResultFifo.reset,
    limits := Vector.replicate 16 LimitSlot.reset, events := EventQueue.reset, attn := Attention.reset,
    time := TimeBase.reset false, port := HostPort.reset,
    pins := { csLow := false, rstLow := false, supplyGood := true, trigHigh := false },
    hostReceived := [], pending := [] }

end Sys2Proof.Machine
end

