-- ==== Sys2Proof/Machine/Ops.lean ====
section
/-! DEFINITION. The plain operations every block uses: taking numbers apart into bytes (least significant byte first,
R116 and 10.5), saturating counts, changing every element of a table, and answering a command. -/

namespace Sys2Proof.Machine

/-- Byte `i` of a number, byte 0 the least significant (10.5). -/
def byteOf (n i : Nat) : Byte := BitVec.ofNat 8 (n / 256 ^ i)

/-- The 16-bit value of two bytes (R186). -/
def join16 (high low : Byte) : BitVec 16 := high ++ low

/-- The 24-bit value of three bytes (R186). -/
def join24 (high mid low : Byte) : BitVec 24 := high ++ mid ++ low

/-- A flag as one byte, 1 for yes (R31). -/
def byteOfBool (b : Bool) : Byte := if b then 1 else 0

/-- One more, but never above the given bound (R42, R65). -/
def succUpTo (bound n : Nat) : Nat := min (n + 1) bound

/-- A table with every element changed. -/
def mapTable {α : Type} {n : Nat} (f : α → α) (v : Vector α n) : Vector α n :=
  ⟨⟨v.toList.map f⟩, by simp⟩

/-- A command that completes with DONE (R191). -/
def done (s : State) (detail : Byte) : Answer := { state := s, result := .done, detail := detail }

/-- A refused command: every block stays as it stood (R191). -/
def refuse (s : State) (r : CmdResult) (detail : Byte) : Answer := { state := s, result := r, detail := detail }

/-- A command that completes as `k` says where its arguments parse, and with BAD_ARG where argument number `detail`
is the first out of range (R191). -/
def withArgs {α : Type} (s : State) (parsed : Except Byte α) (k : α → Answer) : Answer :=
  match parsed with
  | .error detail => refuse s .badArg detail
  | .ok a => k a

end Sys2Proof.Machine
end

