-- ==== Sys2Proof/Machine/Operands.lean ====
section
/-! DEFINITION. The arguments of the commands, read from PARAM as it stands when the command is taken (R192), each
checked in the order its command gives; the answer is the position of the first argument out of range (R191). -/

namespace Sys2Proof.Machine

/-- Byte p`i` of the parameter block (R192). -/
def State.p (s : State) (i : Fin 16) : Byte := s.port.param[i]

/-- The parameter block replaced (R192). -/
def State.withParam (s : State) (b : Vector Byte 16) : State :=
  { s with port := { s.port with param := b } }

/-- The argument at position `pos`, or that position as the detail of BAD_ARG. -/
def argAt {α : Type} (pos : Byte) (a : Option α) : Except Byte α :=
  match a with
  | some x => .ok x
  | none => .error pos

/-- A byte as an index below `n`. -/
def indexArg (n : Nat) (b : Byte) : Option (Fin n) :=
  if h : b.toNat < n then some ⟨b.toNat, h⟩ else none

/-- A byte as yes (1) or no (0); anything else is out of range. -/
def boolArg (b : Byte) : Option Bool :=
  if b = 0 then some false else if b = 1 then some true else none

/-- A byte as a limit slot: 255 means none (R51). -/
def slotArg (b : Byte) : Option (Option (Fin 16)) :=
  if b = 255 then some none else (indexArg 16 b).map some

/-- A 16-bit value that may not be 0. -/
def nonzeroArg (v : BitVec 16) : Option (BitVec 16) := if v = 0 then none else some v

/-- A number within bounds, both included. -/
def rangeArg (low high v : Nat) : Option Nat := if low ≤ v ∧ v ≤ high then some v else none

/-- SET_LENGTH: p0 length (R55). -/
def parseSetLength (s : State) : Except Byte (Fin 33) := argAt 1 (indexArg 33 (s.p 0))

/-- WRITE_ENTRY: index, channel, reference, target code, repeat code, fresh, limit slot, tag (R54). -/
def parseWriteEntry (s : State) : Except Byte (Fin 32 × Entry) := do
  let i ← argAt 1 (indexArg 32 (s.p 0))
  let c ← argAt 2 (indexArg 16 (s.p 1))
  let r ← argAt 3 (indexArg 4 (s.p 2))
  let k ← argAt 4 (indexArg 13 (s.p 3))
  let n ← argAt 5 (indexArg 4 (s.p 4))
  let f ← argAt 6 (boolArg (s.p 5))
  let l ← argAt 7 (slotArg (s.p 6))
  return (i, { channel := c, reference := r, target := k, repeatCode := n, fresh := f, slot := l, tag := s.p 7 })

/-- READ_ENTRY: selector p8 (false for ACTIVE, true for EDIT), then index p0 (R57). -/
def parseReadEntry (s : State) : Except Byte (Bool × Fin 32) := do
  let edit ← argAt 1 (boolArg (s.p 8))
  let i ← argAt 2 (indexArg 32 (s.p 0))
  return (edit, i)

/-- WRITE_CHANNEL: index, enabled, excitation, settle, min count, imbalance limit (R29). -/
def parseWriteChannel (s : State) : Except Byte (Fin 16 × Channel) := do
  let i ← argAt 1 (indexArg 16 (s.p 0))
  let e ← argAt 2 (boolArg (s.p 1))
  let x ← argAt 3 (boolArg (s.p 2))
  let m ← argAt 5 (nonzeroArg (join16 (s.p 5) (s.p 4)))
  return (i, { enabled := e, ac := x, settle := s.p 3, minCount := m, imbalance := s.p 6 })

/-- WRITE_REFERENCE: index, settle periods (R33). -/
def parseWriteReference (s : State) : Except Byte (Fin 4 × Byte) := do
  let i ← argAt 1 (indexArg 4 (s.p 0))
  return (i, s.p 1)

/-- PRELOAD_WINDOW: reference, target code, window in [16 to WINDOW_MAX] (R41). -/
def parsePreload (s : State) : Except Byte (Fin 4 × Fin 13 × Nat) := do
  let r ← argAt 1 (indexArg 4 (s.p 0))
  let k ← argAt 2 (indexArg 13 (s.p 1))
  let w ← argAt 3 (rangeArg Config.minWindow s.time.windowMax.toNat (join24 (s.p 4) (s.p 3) (s.p 2)).toNat)
  return (r, k, w)

/-- SPOT: channel, reference, target code, repeat code, fresh flag (R104). -/
def parseSpot (s : State) : Except Byte Request := do
  let c ← argAt 1 (indexArg 16 (s.p 0))
  let r ← argAt 2 (indexArg 4 (s.p 1))
  let k ← argAt 3 (indexArg 13 (s.p 2))
  let n ← argAt 4 (indexArg 4 (s.p 3))
  let f ← argAt 5 (boolArg (s.p 4))
  return { channel := c, reference := r, target := k, repeatCode := n, fresh := f }

/-- WRITE_SLOT: index, enabled, low, high, hysteresis, persistence, then the order of the bounds (R137). The live
state is that of a slot just written (R138). -/
def parseWriteSlot (s : State) : Except Byte (Fin 16 × LimitSlot) := do
  let i ← argAt 1 (indexArg 16 (s.p 0))
  let e ← argAt 2 (boolArg (s.p 1))
  let low := join24 (s.p 4) (s.p 3) (s.p 2)
  let high := join24 (s.p 7) (s.p 6) (s.p 5)
  let p ← argAt 6 (rangeArg 1 15 (s.p 11).toNat)
  if low.toNat ≤ high.toNat then
    return (i, { enabled := e, low := low, high := high, hysteresis := join24 (s.p 10) (s.p 9) (s.p 8),
                 persistence := p, state := none, pendingDir := none, pendingCount := 0 })
  else .error 7

/-- SET_CLOCK: 0 LF, 1 HF (R171). -/
def parseSetClock (s : State) : Except Byte Source :=
  argAt 1 ((boolArg (s.p 0)).map fun hf => if hf then .hf else .lf)

end Sys2Proof.Machine
end

