-- ==== Sys2Proof/Machine/Cache.lean ====
section
/-! DEFINITION. The window cache (02, sections 2.3 to 2.8): its claims, and the commands PRELOAD_WINDOW, READ_CACHE and
INVALIDATE_CACHE. The list holds the valid slots, most recent first, so a slot that moves to position 0 or becomes
invalid moves the others as R36 says. -/

namespace Sys2Proof.Machine

/-- The slot holds the key (R36). -/
def CacheSlot.holds (r : Fin 4) (k : Fin 13) (e : CacheSlot) : Bool := e.reference == r && e.target == k

/-- The slots but the one that holds the key (R43). -/
def dropKey (r : Fin 4) (k : Fin 13) (slots : List CacheSlot) : List CacheSlot :=
  slots.filter fun e => !e.holds r k

/-- A hit: a valid slot holds the key and its age is below CACHE_MAX_AGE (R38). -/
def Cache.hit (c : Cache) (r : Fin 4) (k : Fin 13) : Option CacheSlot :=
  c.slots.find? fun e => e.holds r k && e.age < c.maxAge

/-- A lookup (R38): the window on a hit, and the cache after it, the slot hit moved to position 0. -/
def Cache.lookup (c : Cache) (r : Fin 4) (k : Fin 13) : Option Nat × Cache :=
  match c.hit r k with
  | some e => (some e.window, { c with slots := e :: dropKey r k c.slots })
  | none => (none, c)

/-- A store (R40): the key's slot is renewed, or an invalid slot is filled, or the least recent is evicted. -/
def Cache.store (c : Cache) (r : Fin 4) (k : Fin 13) (w : Nat) : Cache :=
  let stored : CacheSlot := { reference := r, target := k, window := w, age := 0 }
  { c with slots := (stored :: dropKey r k c.slots).take Config.cacheSlots }

/-- Aging: every valid slot's age increases by one, saturating (R42). -/
def Cache.aged (c : Cache) : Cache :=
  { c with slots := c.slots.map fun e => { e with age := succUpTo Config.maxAge e.age } }

/-- Invalidation of one key (R43). -/
def Cache.invalidateKey (c : Cache) (r : Fin 4) (k : Fin 13) : Cache := { c with slots := dropKey r k c.slots }

/-- Invalidation of every slot of one reference (R44). -/
def Cache.invalidateReference (c : Cache) (r : Fin 4) : Cache :=
  { c with slots := c.slots.filter fun e => e.reference != r }

/-- Invalidation of all slots (R45). -/
def Cache.invalidateAll (c : Cache) : Cache := { c with slots := [] }

/-- The number of valid slots, as a detail byte (R41, R46). -/
def Cache.validCount (c : Cache) : Byte := BitVec.ofNat 8 c.slots.length

/-- What READ_CACHE places in PARAM (R47, 10.6): an invalid slot reads 0 in every field. -/
def cacheParam (position : Fin 8) : Option CacheSlot → Vector Byte 16
  | none => #v[BitVec.ofNat 8 position, 0, 0, 0, 0, 0, 0, 0, 0, 0, 0, 0, 0, 0, 0, 0]
  | some e =>
    #v[BitVec.ofNat 8 position, 1, BitVec.ofNat 8 e.reference, BitVec.ofNat 8 e.target,
       byteOf e.window 0, byteOf e.window 1, byteOf e.window 2, byteOf e.age 0, 0, 0, 0, 0, 0, 0, 0, 0]

/-- PRELOAD_WINDOW (R41). -/
def preloadWindow (s : State) : Answer :=
  withArgs s (parsePreload s) fun (r, k, w) =>
    let c := s.cache.store r k w
    done { s with cache := c } c.validCount

/-- READ_CACHE (R47). -/
def readCache (s : State) : Answer :=
  withArgs s (argAt 1 (indexArg 8 (s.p 0))) fun position =>
    done (s.withParam (cacheParam position s.cache.slots[position.val]?)) (s.p 0)

/-- INVALIDATE_CACHE (R46). -/
def invalidateCache (s : State) : Answer :=
  done { s with cache := s.cache.invalidateAll } s.cache.validCount

/-- A write of CACHE_MAX_AGE (R39): a value above 15 is taken as 15. -/
def writeCacheMaxAge (v : Byte) (s : State) : State :=
  { s with cache := { s.cache with maxAge := min v.toNat Config.maxAge } }

end Sys2Proof.Machine
end

