-- ==== Sys2Proof/Machine/Conversion.lean ====
section
/-! DEFINITION. The conversion unit (01): its phases and what a period boundary and an oscillator edge do in each. A
step that ends the measurement answers the result it hands over; parking the unit, handing the result to the owner and
the next grant follow in Machine/Arbiter.lean. -/

namespace Sys2Proof.Machine

/-- N_ref = 256 × 2^k (00_scope, target codes). -/
def Request.nRef (q : Request) : Nat := 256 * 2 ^ q.target.val

/-- n = 1, 2, 4 or 8 repetitions (00_scope, repeat codes). -/
def Request.reps (q : Request) : Nat := 2 ^ q.repeatCode.val

/-- The window in hand; 0 stands where none was obtained (R19). -/
def ConvUnit.w (c : ConvUnit) : Nat := c.window.getD 0

/-! ### Phases -/

/-- Entering REF_COUNT: MC and WC cleared, waiting for the opening edge (R8). -/
def ConvUnit.enterRefCount (c : ConvUnit) : ConvUnit :=
  { c with phase := .refCount false, osc := .reference c.request.reference, polarity := .a, mc := 0, wc := 0 }

/-- Entering REF_SETTLE; a settle value of 0 goes on to REF_COUNT in the same step (R6). -/
def ConvUnit.enterRefSettle (c : ConvUnit) : ConvUnit :=
  if c.ref.settle = 0 then c.enterRefCount
  else { c with phase := .refSettle, osc := .reference c.request.reference, polarity := .a, mc := 0, wc := 0 }

/-- Entering SNS_SETTLE (R7). -/
def ConvUnit.enterSnsSettle (c : ConvUnit) : ConvUnit :=
  { c with phase := .snsSettle, osc := .channel c.request.channel, polarity := .a, mc := 0, wc := 0 }

/-- Entering SNS_COUNT at the start of a repetition (R12). -/
def ConvUnit.enterSnsCount (c : ConvUnit) : ConvUnit :=
  { c with phase := .snsCount, osc := .channel c.request.channel, polarity := .a, mc := 0, wc := 0 }

/-- Entering SNS_COUNT_B: N1 is taken, the excitation is reversed, the counters go on (R13). -/
def ConvUnit.enterSnsCountB (c : ConvUnit) : ConvUnit :=
  { c with phase := .snsCountB, osc := .channel c.request.channel, polarity := .b, n1 := c.mc, wc := c.wc + 1 }

/-- Returning to IDLE: the oscillator is parked, the counters keep their values (R1, R4, R23). -/
def ConvUnit.park (c : ConvUnit) : ConvUnit :=
  { c with phase := .idle, owner := none, osc := .parked, polarity := .a }

/-- The return to IDLE releases the oscillator in the same step (R4). -/
def parkUnit (s : State) : State :=
  { s with conv := s.conv.park, arb := { s.arb with holder := none } }

/-- The excitation lines: idle, or driving the sensor with a polarity (R1). -/
def State.excitation (s : State) : Option Polarity :=
  match s.conv.phase with
  | .snsSettle | .snsCount | .snsCountB => some s.conv.polarity
  | .idle | .refSettle | .refCount _ => none

/-! ### Results -/

/-- The result of a measurement that does not end with OK: no count, no ratio, the window and the warnings as they
stand (R19). -/
def ConvUnit.failed (c : ConvUnit) (status : Status) : Result :=
  { status := status, warnings := c.warnings, ratioValid := false, window := c.w, count := 0, ratio := 0 }

/-- A result with no window, no count and no ratio (R3, R80, R107). -/
def emptyResult (status : Status) : Result :=
  { status := status, warnings := Warnings.none, ratioValid := false, window := 0, count := 0, ratio := 0 }

/-- The exact quotient of R18, before it is clipped. -/
def ConvUnit.quotient (c : ConvUnit) : Nat := c.request.nRef * c.request.reps * 65536 / c.acc

/-- A quotient above full scale is clipped and adds RATIO_SAT to the warnings (R18). -/
def ConvUnit.clipped (c : ConvUnit) : ConvUnit :=
  if Config.fullScale < c.quotient then { c with warnings := { c.warnings with ratioSat := true } } else c

/-- The result of a measurement whose sensor phase is complete (R18, R19). -/
def ConvUnit.completed (c : ConvUnit) : Result :=
  { status := .ok, warnings := c.clipped.warnings, ratioValid := true, window := c.w, count := c.acc,
    ratio := min c.quotient Config.fullScale }

/-! ### What a period boundary or an edge does -/

/-- What a period boundary does to the unit (R6 to R13). -/
inductive Boundary where
  | ignored
  | counted
  | refSettleExpiry
  | refTimeout
  | snsSettleExpiry
  | firstHalfEnd
  | windowEnd
deriving DecidableEq, Repr

/-- Which of them the next period boundary is (R6, R7, R8, R10, R12, R13). -/
def ConvUnit.boundary (c : ConvUnit) : Boundary :=
  match c.phase with
  | .idle => .ignored
  | .refSettle => if c.wc + 1 < c.ref.settle.toNat then .counted else .refSettleExpiry
  | .refCount _ => if c.wc + 1 ≤ c.windowLimit.toNat then .counted else .refTimeout
  | .snsSettle => if c.wc + 1 < c.chan.settle.toNat then .counted else .snsSettleExpiry
  | .snsCount =>
    if c.chan.ac then if c.wc + 1 < c.w / 2 then .counted else .firstHalfEnd
    else if c.wc + 1 < c.w then .counted else .windowEnd
  | .snsCountB => if c.wc + 1 < c.w then .counted else .windowEnd

/-- What an edge of the measuring oscillator does to the unit (R8 to R14). -/
inductive Edge where
  | ignored
  | counted
  | openingEdge
  | referenceComplete
  | sensorOverrange
deriving DecidableEq, Repr

/-- Which of them the next edge is (R6, R8, R9, R12, R14). -/
def ConvUnit.edge (c : ConvUnit) : Edge :=
  match c.phase with
  | .idle | .refSettle | .snsSettle => .ignored
  | .refCount false => .openingEdge
  | .refCount true => if c.mc + 1 < c.request.nRef then .counted else .referenceComplete
  | .snsCount | .snsCountB => if c.mc + 1 ≤ Config.fullScale then .counted else .sensorOverrange

/-- WC advances by one (R6, R7, R8, R12). -/
def countPeriod (s : State) : State := { s with conv := { s.conv with wc := s.conv.wc + 1 } }

/-- MC advances by one (R8, R12). -/
def countEdge (s : State) : State := { s with conv := { s.conv with mc := s.conv.mc + 1 } }

/-- The reference settle expires (R6). -/
def refSettleExpires (s : State) : State := { s with conv := s.conv.enterRefCount }

/-- The channel settle expires and the first window begins (R7). -/
def snsSettleExpires (s : State) : State := { s with conv := s.conv.enterSnsCount }

/-- The first half of an AC window ends (R13). -/
def firstHalfEnds (s : State) : State := { s with conv := s.conv.enterSnsCountB }

/-- The opening edge: WC is cleared and the count begins; the edge itself is not counted (R8). -/
def edgeOpens (s : State) : State :=
  { s with conv := { s.conv with phase := .refCount true, mc := 0, wc := 0 } }

/-- The reference phase passes the window limit: its key is invalidated, WC stays at the limit (R8, R10, R43). -/
def refTimesOut (s : State) : State × Option Result :=
  ({ s with cache := s.cache.invalidateKey s.conv.request.reference s.conv.request.target },
   some (s.conv.failed .refTimeout))

/-- The generation of the request's reference still equals the one copied at grant (R11). -/
def State.generationKept (s : State) : Bool :=
  s.references[s.conv.request.reference].generation == s.conv.ref.generation

/-- The N_ref-th edge sets W: a window of at least 16 is stored where the generation still matches and the sensor
phase begins; a shorter one invalidates its key and ends the measurement (R9, R10, R11). -/
def referenceCompletes (s : State) : State × Option Result :=
  let c := { s.conv with mc := s.conv.mc + 1, window := some s.conv.wc }
  if Config.minWindow ≤ s.conv.wc then
    let cache := if s.generationKept then s.cache.store c.request.reference c.request.target s.conv.wc else s.cache
    ({ s with conv := c.enterSnsSettle, cache := cache }, none)
  else
    ({ s with conv := c, cache := s.cache.invalidateKey c.request.reference c.request.target },
     some (c.failed .windowShort))

/-- A sensor edge that would take MC past full scale: MC stays (R14). -/
def sensorOverranges (s : State) : State × Option Result := (s, some (s.conv.failed .sensorOverrange))

/-- A good AC repetition is imbalanced: its halves differ by more than L/256 of the count (R16). -/
def ConvUnit.imbalanced (c : ConvUnit) : Bool :=
  let n2 := c.mc - c.n1
  c.chan.ac && c.chan.imbalance != 0 &&
    decide (((c.n1 - n2) + (n2 - c.n1)) * 256 > c.chan.imbalance.toNat * (c.n1 + n2))

/-- A good repetition is checked for imbalance and added to S (R15, R16). -/
def ConvUnit.goodRepetition (c : ConvUnit) : ConvUnit :=
  { c with warnings := { c.warnings with imbalance := c.warnings.imbalance || c.imbalanced }, acc := c.acc + c.mc }

/-- The window ends: the count is checked against the min count, added, and followed by the next repetition or by the
end of the measurement (R12, R13, R15 to R18). -/
def windowEnds (s : State) : State × Option Result :=
  let c := { s.conv with wc := s.conv.wc + 1 }
  if c.mc < c.chan.minCount.toNat then ({ s with conv := c }, some (c.failed .sensorUnderrange))
  else
    let g := c.goodRepetition
    if g.repIndex < g.request.reps then
      ({ s with conv := { g with repIndex := g.repIndex + 1 }.enterSnsCount }, none)
    else ({ s with conv := g.clipped }, some g.completed)

/-! ### The grant -/

/-- The unit as a grant leaves it before the checks: owner, request and snapshots taken, counters cleared (R2). -/
def beginMeasurement (who : Requester) (q : Request) (s : State) : ConvUnit :=
  { s.conv with
    owner := some who, request := q, chan := s.channels[q.channel], ref := s.references[q.reference],
    windowLimit := s.time.windowMax, mc := 0, wc := 0, window := none, repIndex := 1, n1 := 0, acc := 0,
    warnings := Warnings.none }

/-- The status of the at-once end of a grant (R3). -/
def disabledStatus : Requester → Status
  | .scan => .channelDisabled
  | .spot => .cancelled

/-- The cache step (R5): skipped by the fresh flag; a hit takes W and goes to the sensor, a miss measures W. -/
def cacheStep (s : State) : State :=
  if s.conv.request.fresh then { s with conv := s.conv.enterRefSettle }
  else
    match s.cache.lookup s.conv.request.reference s.conv.request.target with
    | (some w, cache) =>
      { s with conv := { s.conv with window := some w, warnings := { s.conv.warnings with cached := true } }.enterSnsSettle,
               cache := cache }
    | (none, cache) => { s with conv := s.conv.enterRefSettle, cache := cache }

/-- The unit's part of a grant (R2, R3, R5): it ends at once on a disabled channel. -/
def grantUnit (who : Requester) (q : Request) (s : State) : State × Option Result :=
  let s' := { s with conv := beginMeasurement who q s }
  if s'.conv.chan.enabled then (cacheStep s', none)
  else (s', some (emptyResult (disabledStatus who)))

end Sys2Proof.Machine
end

