-- ==== Sys2Proof/Machine/Flags.lean ====
section
/-! DEFINITION. The attention logic (08): the eight flags, raising a cause, clearing by writing 1, the enables, and
the INT_N line that follows them. -/

namespace Sys2Proof.Machine

/-- The attention flags (R163). -/
inductive Cause where
  | scanEnd
  | fifoLevel
  | entryFault
  | hold
  | event
  | eventLost
  | triggerOverrun
  | spotDone
deriving DecidableEq, Repr

/-- The flag's bit in ATTN_FLAGS and ATTN_ENABLE (R163). -/
def Cause.mask : Cause → BitVec 8
  | .scanEnd => 0x01#8
  | .fifoLevel => 0x02#8
  | .entryFault => 0x04#8
  | .hold => 0x08#8
  | .event => 0x10#8
  | .eventLost => 0x20#8
  | .triggerOverrun => 0x40#8
  | .spotDone => 0x80#8

/-- A cause sets its flag, whether enabled or not (R164). -/
def raise (c : Cause) (s : State) : State :=
  { s with attn := { s.attn with flags := s.attn.flags ||| c.mask } }

/-- A write of ATTN_FLAGS clears the flags written 1 (R165). -/
def clearFlags (v : Byte) (s : State) : State :=
  { s with attn := { s.attn with flags := s.attn.flags &&& ~~~v } }

/-- A write of ATTN_ENABLE replaces all eight enables (R167). -/
def setEnables (v : Byte) (s : State) : State :=
  { s with attn := { s.attn with enables := v } }

/-- INT_N is asserted exactly when a set flag is enabled (R168). -/
def State.intNAsserted (s : State) : Bool := s.attn.flags &&& s.attn.enables != 0

/-- RESET_ENGINE clears the flags and keeps the enables (R163). -/
def Attention.engineReset (a : Attention) : Attention := { a with flags := 0 }

end Sys2Proof.Machine
end

