-- ==== Sys2Proof/Machine/Fifo.lean ====
section
/-! DEFINITION. The result FIFO (06): the reservation, appending with its threshold check, offering a measurement
record, latching, popping and emptying. What a room report makes the scan controller do is in Machine/Scan.lean. -/

namespace Sys2Proof.Machine

/-- FIFO_COUNT: the number of records held, without the reservation (R112, R129). -/
def ResultFifo.count (f : ResultFifo) : Nat := f.records.length

/-- The places taken: the records and the reservation (R118). -/
def ResultFifo.taken (f : ResultFifo) : Nat := f.count + f.reserved.toNat

/-- The threshold check that follows an append in its own step (R131). -/
def thresholdCheck (s : State) : State :=
  if s.fifo.count = s.fifo.threshold then raise .fifoLevel s else s

/-- A record is placed after the tail, and the threshold is checked (R119, R131). -/
def appendRecord (r : FifoRecord) (s : State) : State :=
  thresholdCheck { s with fifo := { s.fifo with records := s.fifo.records ++ [r] } }

/-- There is a free place beyond the reserved one (R119). -/
def ResultFifo.hasPlace (f : ResultFifo) : Bool := f.taken < Config.fifoCapacity

/-- The SCAN_END record goes into the reserved place, whatever the count, and the reservation clears (R120). -/
def appendScanEnd (r : ScanEndRecord) (s : State) : State :=
  thresholdCheck { s with fifo := { s.fifo with records := s.fifo.records ++ [.scanEnd r], reserved := false } }

/-- A read of RESULT byte 0 copies the head, or EMPTY, into the read latch (R122). -/
def ResultFifo.latchHead (f : ResultFifo) : ResultFifo :=
  { f with latch := f.records.head?, consumed := f.records.isEmpty }

/-- The pop of a latched record that has not been consumed (R124); the latch keeps its contents. -/
def ResultFifo.pop (f : ResultFifo) : ResultFifo := { f with records := f.records.tail, consumed := true }

/-- Every record removed and the latch EMPTY; reservation and threshold kept (R127). -/
def ResultFifo.flush (f : ResultFifo) : ResultFifo := { f with records := [], latch := none, consumed := true }

/-- RESET_ENGINE empties the FIFO and releases the reservation; the threshold stays (R113). -/
def ResultFifo.engineReset (f : ResultFifo) : ResultFifo := { f.flush with reserved := false }

/-- A write of FIFO_THRESHOLD: 0 is taken as 1, above 32 as 32 (R130). -/
def writeFifoThreshold (v : Byte) (s : State) : State :=
  { s with fifo := { s.fifo with threshold := max 1 (min v.toNat Config.fifoCapacity) } }

end Sys2Proof.Machine
end

