-- ==== Sys2Proof/Machine/Events.lean ====
section
/-! DEFINITION. The event queue (08, sections 8.1 to 8.4): appending or dropping, latching and popping. -/

namespace Sys2Proof.Machine

/-- EVENT_COUNT (R153, R162). -/
def EventQueue.count (q : EventQueue) : Nat := q.records.length

/-- A slot hands an event: appended with EVENT raised, or dropped with EVENT_LOST raised (R157). -/
def handEvent (e : EventRecord) (s : State) : State :=
  if s.events.count < Config.eventCapacity then
    raise .event { s with events := { s.events with records := s.events.records ++ [e] } }
  else raise .eventLost s

/-- A read of EVENT byte 0 copies the head, or EMPTY, into the read latch (R159). -/
def EventQueue.latchHead (q : EventQueue) : EventQueue :=
  { q with latch := q.records.head?, consumed := q.records.isEmpty }

/-- A read of EVENT byte 7 pops the head where the latch is not consumed; the latch keeps its contents (R161). -/
def EventQueue.popHead (q : EventQueue) : EventQueue :=
  if q.consumed then q else { q with records := q.records.tail, consumed := true }

end Sys2Proof.Machine
end

