-- ==== Sys2Proof/Machine/Layout.lean ====
section
/-! DEFINITION. What the host reads of a record, byte by byte: the 16-byte result layouts (R116, R117), the 8-byte
event layout (R156), and the codes of the fields. -/

namespace Sys2Proof.Machine

/-- The status codes (R19). -/
def Status.code : Status → BitVec 3
  | .ok => 0
  | .refTimeout => 1
  | .windowShort => 2
  | .sensorOverrange => 3
  | .sensorUnderrange => 4
  | .channelDisabled => 5
  | .cancelled => 6

/-- The termination codes (R115). -/
def Termination.code : Termination → BitVec 2
  | .complete => 0
  | .faulted => 1
  | .aborted => 2

/-- The codes of a slot's state: UNKNOWN, IN_BAND, LOW, HIGH (R134). -/
def stateCode : Option Band → BitVec 2
  | none => 0
  | some .inBand => 1
  | some .low => 2
  | some .high => 3

/-- The codes of a pending direction: NONE, TO_LOW, TO_HIGH, TO_BAND (R134). -/
def directionCode : Option Band → BitVec 2
  | none => 0
  | some .low => 1
  | some .high => 2
  | some .inBand => 3

/-- The codes of an event's kind: ENTER_LOW, ENTER_HIGH, RETURN_IN_BAND (R155). -/
def eventKindCode : Band → BitVec 2
  | .low => 1
  | .high => 2
  | .inBand => 3

/-- The result codes (R191). -/
def CmdResult.code : CmdResult → Byte
  | .done => 0
  | .refusedState => 1
  | .badArg => 2
  | .listPending => 3
  | .emptyList => 4
  | .noRoom => 5
  | .busy => 6
  | .unknownCommand => 7

/-- The kind MEASUREMENT (R114). -/
def kindMeasurement : BitVec 2 := 1

/-- The kind SPOT (R114). -/
def kindSpot : BitVec 2 := 3

/-- The kind SCAN_END (R114). -/
def kindScanEnd : BitVec 2 := 2

/-- A MEASUREMENT or SPOT record as 16 bytes (R116). -/
def measBytes (kind : BitVec 2) (r : MeasRecord) : Vector Byte 16 :=
  #v[BitVec.ofBool r.warnings.imbalance ++ BitVec.ofBool r.warnings.cached ++ BitVec.ofBool r.ratioValid ++
       r.status.code ++ kind,
     0#1 ++ BitVec.ofNat 2 r.repeatCode ++ BitVec.ofNat 5 r.entryIndex,
     r.tag,
     0#1 ++ BitVec.ofBool r.warnings.ratioSat ++ BitVec.ofNat 2 r.reference ++ BitVec.ofNat 4 r.channel,
     byteOf r.seq.toNat 0, byteOf r.seq.toNat 1,
     byteOf r.window 0, byteOf r.window 1, byteOf r.window 2,
     byteOf r.count 0, byteOf r.count 1, byteOf r.count 2, byteOf r.count 3,
     byteOf r.ratio 0, byteOf r.ratio 1, byteOf r.ratio 2]

/-- A SCAN_END record as 16 bytes (R117). -/
def scanEndBytes (r : ScanEndRecord) : Vector Byte 16 :=
  #v[0#4 ++ r.termination.code ++ kindScanEnd,
     byteOf r.measured 0, byteOf r.faults 0, byteOf r.discarded 0,
     byteOf r.seq.toNat 0, byteOf r.seq.toNat 1, byteOf r.skipped 0,
     0, 0, 0, 0, 0, 0, 0, 0, 0]

/-- The EMPTY record as 16 bytes (R114). -/
def emptyBytes : Vector Byte 16 := Vector.replicate 16 0

/-- What the RESULT window shows of its latch (R122, R123). -/
def resultBytes : Option FifoRecord → Vector Byte 16
  | none => emptyBytes
  | some (.measurement r) => measBytes kindMeasurement r
  | some (.scanEnd r) => scanEndBytes r

/-- What the SPOT window shows of its latch (R109). -/
def spotBytes : Option MeasRecord → Vector Byte 16
  | none => emptyBytes
  | some r => measBytes kindSpot r

/-- What the EVENT window shows of its latch (R156). -/
def eventBytes : Option EventRecord → Vector Byte 8
  | none => Vector.replicate 8 0
  | some r =>
    #v[BitVec.ofNat 4 r.slot ++ stateCode r.previous ++ eventKindCode r.kind,
       0#3 ++ BitVec.ofNat 5 r.entryIndex,
       r.tag,
       byteOf r.seq.toNat 0, byteOf r.seq.toNat 1,
       byteOf r.ratio 0, byteOf r.ratio 1, byteOf r.ratio 2]

end Sys2Proof.Machine
end

