-- ==== Sys2Proof/Machine/Limits.lean ====
section
/-! DEFINITION. Limit supervision (07): the candidate a ratio points to, persistence, the change of state and its
event, and the commands WRITE_SLOT and READ_SLOT. -/

namespace Sys2Proof.Machine

/-- The bound at which a LOW slot returns, saturating at full scale (R143). -/
def LimitSlot.returnFromLow (l : LimitSlot) : Nat := min (l.low.toNat + l.hysteresis.toNat) Config.fullScale

/-- The bound at which a HIGH slot returns, saturating at 0 (R143). -/
def LimitSlot.returnFromHigh (l : LimitSlot) : Nat := l.high.toNat - l.hysteresis.toNat

/-- The state the ratio points to, judged from the slot's own state (R142, R143). -/
def LimitSlot.candidate (l : LimitSlot) (x : Nat) : Band :=
  match l.state with
  | none | some .inBand =>
    if x < l.low.toNat then .low else if l.high.toNat < x then .high else .inBand
  | some .low =>
    if l.high.toNat < x then .high else if l.returnFromLow ≤ x then .inBand else .low
  | some .high =>
    if x < l.low.toNat then .low else if x ≤ l.returnFromHigh then .inBand else .high

/-- The slot in a state, with nothing pending (R144, R145). -/
def LimitSlot.settled (l : LimitSlot) (b : Option Band) : LimitSlot :=
  { l with state := b, pendingDir := none, pendingCount := 0 }

/-- The count of consecutive candidates once this one has been counted (R145). -/
def LimitSlot.countToward (l : LimitSlot) (c : Band) : Nat :=
  if l.pendingDir = some c then l.pendingCount + 1 else 1

/-- One evaluation (R142 to R145): the slot after it, and the band entered where the slot changed state. -/
def LimitSlot.evaluate (l : LimitSlot) (x : Nat) : LimitSlot × Option Band :=
  let c := l.candidate x
  if l.state = some c then (l.settled l.state, none)
  else if l.state = none ∧ c = .inBand then (l.settled (some .inBand), none)
  else if l.persistence ≤ l.countToward c then (l.settled (some c), some c)
  else ({ l with pendingDir := some c, pendingCount := l.countToward c }, none)

/-- The offer of an OK record to the slot its entry names (R140): a disabled slot ignores it; an event the evaluation
produces is handed to the event queue in the same step (R146). -/
def offerToSlot (i : Fin 16) (r : MeasRecord) (s : State) : State :=
  let l := s.limits[i]
  if l.enabled then
    let (l', change) := l.evaluate r.ratio
    let s' := { s with limits := s.limits.set i l' }
    match change with
    | none => s'
    | some b =>
      handEvent { kind := b, slot := i, previous := l.state, entryIndex := r.entryIndex, tag := r.tag, seq := r.seq,
                  ratio := r.ratio } s'
  else s

/-- WRITE_SLOT (R137, R138). -/
def writeSlot (s : State) : Answer :=
  withArgs s (parseWriteSlot s) fun (i, l) =>
    done { s with limits := s.limits.set i l } (s.p 0)

/-- What READ_SLOT places in PARAM (R139, 10.6). -/
def slotParam (i : Fin 16) (l : LimitSlot) : Vector Byte 16 :=
  #v[BitVec.ofNat 8 i, byteOfBool l.enabled,
     byteOf l.low.toNat 0, byteOf l.low.toNat 1, byteOf l.low.toNat 2,
     byteOf l.high.toNat 0, byteOf l.high.toNat 1, byteOf l.high.toNat 2,
     byteOf l.hysteresis.toNat 0, byteOf l.hysteresis.toNat 1, byteOf l.hysteresis.toNat 2,
     byteOf l.persistence 0, 0#6 ++ stateCode l.state, 0#6 ++ directionCode l.pendingDir, byteOf l.pendingCount 0, 0]

/-- READ_SLOT (R139). -/
def readSlot (s : State) : Answer :=
  withArgs s (argAt 1 (indexArg 16 (s.p 0))) fun i =>
    done (s.withParam (slotParam i s.limits[i])) (s.p 0)

/-- RESET_ENGINE keeps a slot's configuration and clears its live state (R136). -/
def LimitSlot.engineReset (l : LimitSlot) : LimitSlot := l.settled none

end Sys2Proof.Machine
end

