-- ==== Sys2Proof/Machine/ScanList.lean ====
section
/-! DEFINITION. The scan list (03): the active and the edit bank, the editing commands, COMMIT and the swap. -/

namespace Sys2Proof.Machine

/-- The bank the pointer names (R50). -/
def ScanList.activeBank (l : ScanList) : Bank :=
  match l.active with
  | .a => l.bankA
  | .b => l.bankB

/-- The other bank (R50). -/
def ScanList.editBank (l : ScanList) : Bank :=
  match l.active with
  | .a => l.bankB
  | .b => l.bankA

/-- The edit bank replaced (R54, R55). -/
def ScanList.withEditBank (l : ScanList) (b : Bank) : ScanList :=
  match l.active with
  | .a => { l with bankB := b }
  | .b => { l with bankA := b }

/-- A claim of the swap (R61): with the pending flag set the pointer flips, the newly active bank is copied whole into
the new edit bank, and the flag clears; with the flag clear nothing changes. -/
def ScanList.claimSwap (l : ScanList) : ScanList :=
  if l.pendingFlag then
    { bankA := l.editBank, bankB := l.editBank,
      active := match l.active with
        | .a => .b
        | .b => .a
      pendingFlag := false }
  else l

/-- The claim of the swap as a change of the part (R62). -/
def claimSwap (s : State) : State := { s with list := s.list.claimSwap }

/-- SET_LENGTH (R55). -/
def setLength (s : State) : Answer :=
  if s.list.pendingFlag then refuse s .listPending 0
  else withArgs s (parseSetLength s) fun n =>
    done { s with list := s.list.withEditBank { s.list.editBank with length := n } } (s.p 0)

/-- WRITE_ENTRY (R54). -/
def writeEntry (s : State) : Answer :=
  if s.list.pendingFlag then refuse s .listPending 0
  else withArgs s (parseWriteEntry s) fun (i, e) =>
    done { s with list := s.list.withEditBank
                    { s.list.editBank with entries := s.list.editBank.entries.set i e } } (s.p 0)

/-- A limit slot as one byte: 255 for none (R51). -/
def slotByte : Option (Fin 16) → Byte
  | none => 255
  | some l => BitVec.ofNat 8 l

/-- What READ_ENTRY places in PARAM (R57, 10.6). -/
def entryParam (edit : Bool) (i : Fin 32) (length : Fin 33) (e : Entry) : Vector Byte 16 :=
  #v[BitVec.ofNat 8 i, BitVec.ofNat 8 e.channel, BitVec.ofNat 8 e.reference, BitVec.ofNat 8 e.target,
     BitVec.ofNat 8 e.repeatCode, byteOfBool e.fresh, slotByte e.slot, e.tag,
     byteOfBool edit, BitVec.ofNat 8 length, 0, 0, 0, 0, 0, 0]

/-- READ_ENTRY (R57). -/
def readEntry (s : State) : Answer :=
  withArgs s (parseReadEntry s) fun (edit, i) =>
    let b := if edit then s.list.editBank else s.list.activeBank
    done (s.withParam (entryParam edit i b.length b.entries[i])) (s.p 0)

/-- COMMIT (R59): in IDLE the swap is taken in the same step. -/
def commit (s : State) : Answer :=
  if s.list.editBank.length = 0 then refuse s .emptyList 0
  else if s.list.pendingFlag then refuse s .listPending 0
  else
    let s' := { s with list := { s.list with pendingFlag := true } }
    if s.ctl.state = .idle then done (claimSwap s') 1 else done s' 0

end Sys2Proof.Machine
end

