-- ==== Sys2Proof/Machine/Scan.lean ====
section
/-! DEFINITION. The scan controller (04): start attempts, the walk, the handling of a record, the end of a scan,
triggers, room reports, and the commands of the controller. A request the walk makes is placed at the arbiter; the
grant follows at the end of the step (R99, R100, Machine/Arbiter.lean). -/

namespace Sys2Proof.Machine

/-- Where the walk stands after a record: it waits (for a grant or for FIFO room), it reaches the next entry in the
same step, or the scan ends (R82, R86, R87). -/
inductive WalkNext where
  | waits
  | reaches
  | ends (t : Termination)
deriving DecidableEq, Repr

/-- The measurement faults, codes 1 to 4 (R19). -/
def Status.isFault : Status → Bool
  | .refTimeout | .windowShort | .sensorOverrange | .sensorUnderrange => true
  | .ok | .channelDisabled | .cancelled => false

/-! ### Records of a scan -/

/-- The entry the walk has reached (R78). -/
def State.entry (s : State) : Entry := s.list.activeBank.entries[s.ctl.entryIndex]

/-- The measurement record of a result (R80). -/
def buildRecord (s : State) (r : Result) : MeasRecord :=
  { status := r.status, warnings := r.warnings, ratioValid := r.ratioValid, entryIndex := s.ctl.entryIndex,
    tag := s.entry.tag, channel := s.entry.channel, reference := s.entry.reference,
    repeatCode := s.entry.repeatCode, seq := s.ctl.seq, window := r.window, count := r.count, ratio := r.ratio }

/-- The per-scan tallies count a record appended, or dropped under DISCARD (R85). -/
def tally (r : MeasRecord) (dropped : Bool) (s : State) : State :=
  { s with ctl := { s.ctl with
      measured := s.ctl.measured + 1
      faults := s.ctl.faults + r.status.isFault.toNat
      discarded := s.ctl.discarded + dropped.toNat } }

/-- What follows a counted record: FAULT_STOP, the next entry, or the end of the list (R86, R87). -/
def afterRecord (r : MeasRecord) (s : State) : State × WalkNext :=
  if s.ctl.snapshot.faultStop && r.status.isFault then (s, .ends .faulted)
  else if h : s.ctl.entryIndex.val + 1 < s.list.activeBank.length.val then
    ({ s with ctl := { s.ctl with entryIndex := ⟨s.ctl.entryIndex.val + 1, by omega⟩ } }, .reaches)
  else (s, .ends .complete)

/-- Steps 1 and 2 of R81: the limit offer of an OK record, and the ENTRY_FAULT cause. -/
def offerAndFlag (r : MeasRecord) (s : State) : State :=
  let s := match s.entry.slot with
    | some i => if r.status = .ok then offerToSlot i r s else s
    | none => s
  if r.status.isFault then raise .entryFault s else s

/-- A record refused under STALL is held (R82). -/
def holdRecord (r : MeasRecord) (s : State) : State :=
  raise .hold { s with ctl := { s.ctl with state := .holdRecord, held := some r } }

/-- A built record is handled in one step (R81, R82, R84). -/
def handleRecord (r : MeasRecord) (s : State) : State × WalkNext :=
  let s := offerAndFlag r s
  if s.fifo.hasPlace then afterRecord r (tally r false (appendRecord (.measurement r) s))
  else if s.ctl.snapshot.discard then afterRecord r (tally r true s)
  else (holdRecord r s, .waits)

/-! ### The walk -/

/-- The request of an entry (R78). -/
def Entry.request (e : Entry) : Request :=
  { channel := e.channel, reference := e.reference, target := e.target, repeatCode := e.repeatCode, fresh := e.fresh }

/-- The walk reaches an entry: a request of the arbiter, or a CHANNEL_DISABLED record at once (R78, R80). -/
def reachEntry (s : State) : State × WalkNext :=
  if s.channels[s.entry.channel].enabled then
    ({ s with ctl := { s.ctl with grantOutstanding := true },
              arb := { s.arb with scanReq := some s.entry.request } }, .waits)
  else handleRecord (buildRecord s (emptyResult .channelDisabled)) s

/-- The walk over entries reached in one step: at most 32, since the index rises with each (R78, R87). -/
def walk : Nat → State → State × WalkNext
  | 0, s => (s, .waits)
  | n + 1, s =>
    match reachEntry s with
    | (s', .reaches) => walk n s'
    | out => out

/-! ### The end of a scan -/

/-- The SCAN_END record (R88). -/
def scanEndRecord (t : Termination) (c : Controller) : ScanEndRecord :=
  { termination := t, seq := c.seq, measured := c.measured, faults := c.faults, discarded := c.discarded,
    skipped := c.skipTally }

/-- Steps 1 to 5 of R88. -/
def closeScan (t : Termination) (s : State) : State :=
  let s := appendScanEnd (scanEndRecord t s.ctl) s
  raise .scanEnd
    { s with ctl := { s.ctl with skipTally := 0, remaining := s.ctl.remaining - 1 }, cache := s.cache.aged }

/-- The scan timer is stopped and cleared (R178). -/
def TimeBase.stopTimer (t : TimeBase) : TimeBase :=
  { t with timerRunning := false, timerRemaining := 0, prescaler := 0 }

/-- Every entry into IDLE: stop-requested and the pending trigger clear, the timer stops, the swap is claimed (R62,
R89, R178). -/
def enterIdle (s : State) : State :=
  claimSwap
    { s with ctl := { s.ctl with state := .idle, stopRequested := false, pendingTrigger := false },
             time := s.time.stopTimer }

/-- Entering ARMED (R89). -/
def enterArmed (s : State) : State := { s with ctl := { s.ctl with state := .armed } }

/-- The run ends with this scan (R89): `before` is scans remaining before the end counted it. -/
def runEnds (t : Termination) (before : Nat) (c : Controller) : Bool :=
  t != .complete || c.mode == .single || c.stopRequested || (before != 0 && c.remaining == 0)

/-- The end of a scan (R88, R89): the part after it, and whether a latched trigger is then taken up. -/
def endScan (t : Termination) (s : State) : State × Bool :=
  let s' := closeScan t s
  if runEnds t s.ctl.remaining s'.ctl then (enterIdle s', false)
  else (enterArmed s', s'.ctl.pendingTrigger)

/-! ### Starting a scan -/

/-- A scan starts in one step (R76), but for reaching entry 0. -/
def startScan (s : State) : State :=
  { s with
    fifo := { s.fifo with reserved := true }
    ctl := { s.ctl with
      state := .scanning, seq := s.ctl.seq + 1, snapshot := s.ctl.scanCtrl, measured := 0, faults := 0,
      discarded := 0, entryIndex := 0, stopRequested := false, grantOutstanding := false, held := none,
      pendingTrigger := false } }

/-- A scan skipped under DISCARD (R75). -/
def skipScan (s : State) : State :=
  { s with ctl := { s.ctl with
      state := .armed, pendingTrigger := false, skipTally := succUpTo Config.maxSkips s.ctl.skipTally } }

/-- A start held under STALL: HOLD(START) with the trigger pending (R74). -/
def holdStart (s : State) : State :=
  raise .hold { s with ctl := { s.ctl with state := .holdStart, pendingTrigger := true } }

/-- A scan start attempt (R74 to R76): the part after it, and whether the scan started. -/
def startAttempt (s : State) : State × Bool :=
  let s := claimSwap s
  if s.fifo.count < Config.fifoCapacity then (startScan s, true)
  else if s.ctl.scanCtrl.discard then (skipScan s, false)
  else (holdStart s, false)

/-- The walk goes on where it has reached an entry, and the scan is closed where it ends; `true` where a latched
trigger is then taken up (R87, R88, R89). -/
def walkAndEnd (out : State × WalkNext) : State × Bool :=
  let out := match out with
    | (s, .reaches) => walk 32 s
    | (s, .waits) => (s, .waits)
    | (s, .ends t) => (s, .ends t)
  match out with
  | (s, .ends t) => endScan t s
  | (s, .waits) => (s, false)
  | (s, .reaches) => (s, false)

/-- The rest of a step of the walk. One scan end of the step may take up a latched trigger and start the next scan
(R89); that start clears the trigger (R76), so a scan it starts and ends in the same step takes up none. -/
def runScans : Nat → State × WalkNext → State
  | 0, out => (walkAndEnd out).1
  | n + 1, out =>
    match walkAndEnd out with
    | (s, false) => s
    | (s, true) =>
      match startAttempt s with
      | (s', true) => runScans n (s', .reaches)
      | (s', false) => s'

/-- The rest of a step of the walk after one record or one start. -/
def continueWalk (out : State × WalkNext) : State := runScans 1 out

/-- The walk reaches the entry at the entry index, with all that follows in the step but the arbiter's decision (R78,
R87 to R89). -/
def reachOn (s : State) : State := continueWalk (s, .reaches)

/-! ### Triggers -/

/-- A trigger dropped because one is already pending (R91). -/
def overrun (s : State) : State :=
  raise .triggerOverrun { s with ctl := { s.ctl with skipTally := succUpTo Config.maxSkips s.ctl.skipTally } }

/-- The scan controller takes the result of its grant (R79, R80, R81); a result reaches it in SCANNING alone (4.11). -/
def takeScanResult (r : Result) (s : State) : State :=
  if s.ctl.state = .scanning then continueWalk (handleRecord (buildRecord s r) s) else s

/-! ### Commands -/

/-- The checks every start command makes first (R70). -/
def startRefusal (s : State) : Option CmdResult :=
  if s.ctl.state ≠ .idle then some .refusedState
  else if s.list.activeBank.length = 0 then some .emptyList
  else none

/-- The scan timer is started and loaded with SCAN_INTERVAL (R175). -/
def TimeBase.startTimer (t : TimeBase) : TimeBase :=
  { t with timerRunning := true, prescaler := 0, timerRemaining := t.scanInterval.toNat }

/-- ARM_TRIGGER (R70, R73). -/
def armTrigger (s : State) : Answer :=
  match startRefusal s with
  | some r => refuse s r 0
  | none =>
    done { s with ctl := { s.ctl with
             snapshot := s.ctl.scanCtrl, mode := .triggered, remaining := s.ctl.scanCount.toNat,
             state := .armed } } 0

/-- STOP (R93). -/
def stopRun (s : State) : Answer :=
  match s.ctl.state with
  | .idle => done s 0
  | .armed | .holdStart => done (enterIdle s) 0
  | .scanning | .holdRecord => done { s with ctl := { s.ctl with stopRequested := true } } 1

/-- The scan in progress is cut off: the request withdrawn, a conversion of its own stopped, a held record dropped
(R95 steps 1 to 3, R20, R101). -/
def cutOffScan (s : State) : State :=
  let s := { s with ctl := { s.ctl with grantOutstanding := false, held := none },
                    arb := { s.arb with scanReq := none } }
  if s.conv.owner = some .scan then parkUnit s else s

/-- The controller's RESET_ENGINE values (R67): the scan sequence, SCAN_CTRL with its snapshot and SCAN_COUNT stay. -/
def Controller.engineReset (c : Controller) : Controller :=
  { Controller.reset with seq := c.seq, scanCtrl := c.scanCtrl, snapshot := c.snapshot, scanCount := c.scanCount }

/-- A write of SCAN_CTRL replaces its three fields and does nothing else (R68, R189). -/
def writeScanCtrl (v : Byte) (s : State) : State :=
  { s with ctl := { s.ctl with
      scanCtrl := { discard := v.getLsbD 0, faultStop := v.getLsbD 1, falling := v.getLsbD 2 } } }

end Sys2Proof.Machine
end

