-- ==== Sys2Proof/Machine/Arbiter.lean ====
section
/-! DEFINITION. The oscillator arbiter and the spot port (05): grants, the decision at a release, the end of a spot,
the steps of a measurement, start attempts, triggers and room reports with all that follows them in the same step, and
the commands that make a request or release the oscillator. -/

namespace Sys2Proof.Machine

/-! ### The spot port -/

/-- The SPOT record of a result (R106). -/
def spotRecord (s : State) (r : Result) : MeasRecord :=
  { status := r.status, warnings := r.warnings, ratioValid := r.ratioValid, entryIndex := 0, tag := 0,
    channel := s.spot.request.channel, reference := s.spot.request.reference,
    repeatCode := s.spot.request.repeatCode, seq := s.ctl.seq, window := r.window, count := r.count,
    ratio := r.ratio }

/-- A spot ends (R106): the record replaces the spot window, the state is NONE, SPOT_DONE is raised. -/
def endSpot (r : Result) (s : State) : State :=
  raise .spotDone { s with spot := { s.spot with window := some (spotRecord s r), state := .none } }

/-! ### Grants -/

/-- Which waiting request is granted (R100). -/
def Arbiter.choose (a : Arbiter) : Option (Requester × Request) :=
  match a.scanReq, a.spotReq with
  | none, none => none
  | some q, none => some (.scan, q)
  | none, some q => some (.spot, q)
  | some q, some p =>
    match a.lastGrant with
    | .scan => some (.spot, p)
    | .spot => some (.scan, q)

/-- The arbiter's and the requester's part of a grant (R99). -/
def takeGrant (who : Requester) (s : State) : State :=
  match who with
  | .scan =>
    { s with arb := { s.arb with holder := some .scan, lastGrant := .scan, scanReq := none },
             ctl := { s.ctl with grantOutstanding := false } }
  | .spot =>
    { s with arb := { s.arb with holder := some .spot, lastGrant := .spot, spotReq := none },
             spot := { s.spot with state := .running } }

/-- The owner takes the result handed to it (R4, R79, R106). -/
def deliver (who : Requester) (r : Result) (s : State) : State :=
  match who with
  | .scan => takeScanResult r s
  | .spot => endSpot r s

/-- Grants while the unit is free and a request waits (R99, R100). A grant that ends at once (R3) releases the
oscillator and the decision is made again. -/
def arbitrateUpTo : Nat → State → State
  | 0, s => s
  | n + 1, s =>
    if s.arb.holder.isSome then s
    else
      match s.arb.choose with
      | none => s
      | some (who, q) =>
        match grantUnit who q (takeGrant who s) with
        | (s', none) => s'
        | (s', some r) => arbitrateUpTo n (deliver who r (parkUnit s'))

/-- The grants of one step. At most two requests can find their channel disabled (the spot's and one of the scan that
waited); a request made in this very step has just been checked (R78), so three grants are enough. -/
def arbitrate (s : State) : State := arbitrateUpTo 3 s

/-- A measurement ends: the unit returns to IDLE and releases the oscillator, the owner takes the result, and the
arbiter decides (R4, R100). -/
def finish (r : Result) (s : State) : State :=
  match s.conv.owner with
  | none => arbitrate (parkUnit s)
  | some who => arbitrate (deliver who r (parkUnit s))

/-- A step of the unit that may end the measurement. -/
def settleUnit (out : State × Option Result) : State :=
  match out with
  | (s, none) => s
  | (s, some r) => finish r s

/-- A period boundary of the given kind reaches the unit (R6 to R13). -/
def takeBoundary (k : Boundary) (s : State) : State :=
  match k with
  | .ignored => s
  | .counted => countPeriod s
  | .refSettleExpiry => refSettleExpires s
  | .refTimeout => settleUnit (refTimesOut s)
  | .snsSettleExpiry => snsSettleExpires s
  | .firstHalfEnd => firstHalfEnds s
  | .windowEnd => settleUnit (windowEnds s)

/-- An oscillator edge of the given kind reaches the unit (R8 to R14). -/
def takeEdge (k : Edge) (s : State) : State :=
  match k with
  | .ignored => s
  | .counted => countEdge s
  | .openingEdge => edgeOpens s
  | .referenceComplete => settleUnit (referenceCompletes s)
  | .sensorOverrange => settleUnit (sensorOverranges s)

/-! ### Start attempts, triggers and room reports -/

/-- A scan start attempt with all that follows it in its step, and whether the scan started (R74, R99). -/
def attemptStart (s : State) : State × Bool :=
  match startAttempt s with
  | (s', true) => (arbitrate (reachOn s'), true)
  | (s', false) => (s', false)

/-- A trigger is taken according to the state (R90). -/
def takeTrigger (s : State) : State :=
  match s.ctl.state with
  | .idle => s
  | .armed => (attemptStart s).1
  | .scanning | .holdStart | .holdRecord =>
    if s.ctl.pendingTrigger then overrun s else { s with ctl := { s.ctl with pendingTrigger := true } }

/-- The held record is offered again (R83): appended and counted where the FIFO takes it, else still held. -/
def reofferRecord (s : State) : State :=
  match s.ctl.held with
  | none => s
  | some r =>
    if s.fifo.hasPlace then
      let s := appendRecord (.measurement r) s
      arbitrate (continueWalk
        (afterRecord r (tally r false { s with ctl := { s.ctl with state := .scanning, held := none } })))
    else s

/-- A room report (R126): a held start is attempted again (R77), a held record is offered again (R83). -/
def roomReport (s : State) : State :=
  match s.ctl.state with
  | .holdStart => (attemptStart s).1
  | .holdRecord => reofferRecord s
  | .idle | .armed | .scanning => s

/-- The scan start attempt a start command makes: CMD_DETAIL is 1 where a scan started (R70). -/
def commandAttempt (s : State) : Answer :=
  match attemptStart s with
  | (s', started) => done s' (byteOfBool started)

/-! ### Commands -/

/-- The detail of BUSY (R104). -/
def busyDetail : SpotState → Option Byte
  | .none => none
  | .waiting => some 1
  | .running => some 2

/-- An accepted SPOT (R105): stored, WAITING, sent to the arbiter, and granted in the same step where the unit is
free. -/
def acceptSpot (q : Request) (s : State) : Answer :=
  let s := arbitrate
    { s with spot := { s.spot with request := q, state := .waiting },
             arb := { s.arb with spotReq := some q } }
  done s (if s.spot.state = .waiting then 0 else 1)

/-- SPOT (R104, R105). -/
def spotCommand (s : State) : Answer :=
  match busyDetail s.spot.state with
  | some d => refuse s .busy d
  | none =>
    withArgs s (parseSpot s) fun q =>
      if s.channels[q.channel].enabled then acceptSpot q s else refuse s .badArg 6

/-- The result of a measurement stopped by CANCEL_SPOT (R21). DEDUCED (log 10): CACHED is the one warning on it. -/
def ConvUnit.cancelledResult (c : ConvUnit) : Result :=
  { c.failed .cancelled with warnings := { Warnings.none with cached := c.warnings.cached } }

/-- A running spot is stopped (R20, R21, R107); a stop that names an owner the unit is not serving has no effect. -/
def stopSpot (s : State) : State :=
  if s.conv.owner = some .spot then endSpot s.conv.cancelledResult (parkUnit s) else s

/-- CANCEL_SPOT (R107). -/
def cancelSpot (s : State) : Answer :=
  match s.spot.state with
  | .none => done s 0
  | .waiting =>
    done (arbitrate (endSpot (emptyResult .cancelled) { s with arb := { s.arb with spotReq := none } })) 1
  | .running => done (arbitrate (stopSpot s)) 2

/-- START_SINGLE (R70, R71). -/
def startSingle (s : State) : Answer :=
  match startRefusal s with
  | some r => refuse s r 0
  | none =>
    if s.fifo.count = Config.fifoCapacity then refuse s .noRoom 32
    else commandAttempt { s with ctl := { s.ctl with snapshot := s.ctl.scanCtrl, mode := .single, remaining := 1 } }

/-- START_TIMED (R70, R72). -/
def startTimed (s : State) : Answer :=
  match startRefusal s with
  | some r => refuse s r 0
  | none =>
    commandAttempt
      { s with ctl := { s.ctl with snapshot := s.ctl.scanCtrl, mode := .timed, remaining := s.ctl.scanCount.toNat },
               time := s.time.startTimer }

/-- ABORT (R94, R95). -/
def abortRun (s : State) : Answer :=
  match s.ctl.state with
  | .idle => done s 0
  | .armed | .holdStart => done (enterIdle s) 0
  | .scanning | .holdRecord => done (arbitrate (enterIdle (closeScan .aborted (cutOffScan s)))) 1

/-- FLUSH_FIFO (R127). -/
def flushFifo (s : State) : Answer :=
  done (roomReport { s with fifo := s.fifo.flush }) (BitVec.ofNat 8 s.fifo.count)

/-- A read of RESULT byte 15 pops where the latch is not consumed, and reports room (R124, R126). -/
def popResult (s : State) : State :=
  if s.fifo.consumed then s else roomReport { s with fifo := s.fifo.pop }

end Sys2Proof.Machine
end

