-- ==== Sys2Proof/Machine/Timebase.lean ====
section
/-! DEFINITION. The time base (09): SET_CLOCK, the writes of WINDOW_MAX, SCAN_INTERVAL and SCAN_COUNT, the scan timer
and the TRIG edge detector. -/

namespace Sys2Proof.Machine

/-- SET_CLOCK's refusals by state (R171). -/
def clockRefusal (s : State) : Option Byte :=
  if s.ctl.state ≠ .idle then some 1
  else if s.spot.state ≠ .none then some 2
  else if s.conv.phase ≠ .idle then some 3
  else none

/-- SET_CLOCK (R171). -/
def setClock (s : State) : Answer :=
  match clockRefusal s with
  | some d => refuse s .refusedState d
  | none =>
    withArgs s (parseSetClock s) fun src =>
      done { s with time := { s.time with source := src }, cache := s.cache.invalidateAll } (s.p 0)

/-- WINDOW_MAX takes effect (R173): below 16 is taken as 16. -/
def setWindowMax (v : BitVec 24) (s : State) : State :=
  { s with time := { s.time with windowMax := if v.toNat < Config.minWindow then 16 else v } }

/-- SCAN_INTERVAL takes effect (R177): 0 is taken as 1; a running timer is left as it is. -/
def setScanInterval (v : BitVec 16) (s : State) : State :=
  { s with time := { s.time with scanInterval := if v = 0 then 1 else v } }

/-- SCAN_COUNT takes effect (R69). -/
def setScanCount (v : BitVec 16) (s : State) : State :=
  { s with ctl := { s.ctl with scanCount := v } }

/-! ### The scan timer -/

/-- An expiry is a trigger in TIMED mode (R90). -/
def deliverExpiry (s : State) : State := if s.ctl.mode = .timed then takeTrigger s else s

/-- The timer expires (R176): it reloads, runs on, and delivers one expiry. -/
def timerExpires (s : State) : State :=
  deliverExpiry { s with time := { s.time with prescaler := 0, timerRemaining := s.time.scanInterval.toNat } }

/-- A unit ends that leaves units remaining (R174). -/
def unitEnds (s : State) : State :=
  { s with time := { s.time with prescaler := 0, timerRemaining := s.time.timerRemaining - 1 } }

/-- What an LF period boundary does at the scan timer (R174, R176). -/
inductive LfBoundary where
  | ignored
  | counted
  | unitEnd
  | expiry
deriving DecidableEq, Repr

/-- Which of them the next LF period boundary is. -/
def TimeBase.lfBoundary (t : TimeBase) : LfBoundary :=
  if !t.timerRunning then .ignored
  else if t.prescaler + 1 < Config.unitPeriods then .counted
  else if 1 < t.timerRemaining then .unitEnd
  else .expiry

/-- An LF period boundary of the given kind reaches the timer. -/
def takeLfBoundary (k : LfBoundary) (s : State) : State :=
  match k with
  | .ignored => s
  | .counted => { s with time := { s.time with prescaler := s.time.prescaler + 1 } }
  | .unitEnd => unitEnds s
  | .expiry => timerExpires s

/-! ### TRIG -/

/-- RST_N low or the supply below the threshold: the part is held in hard reset (R194, R195). -/
def State.inReset (s : State) : Bool := s.pins.rstLow || !s.pins.supplyGood

/-- The edge has the snapshot's polarity (R179). -/
def State.edgeDelivered (s : State) (high : Bool) : Bool := s.ctl.snapshot.falling != high

/-- A delivered edge is a trigger in TRIGGERED mode (R90). -/
def deliverEdge (high : Bool) (s : State) : State :=
  if s.edgeDelivered high && s.ctl.mode == .triggered then takeTrigger s else s

/-- TRIG takes a level (R179). A level it already has is no change; while reset is held the detector takes no edge
(R194). -/
def trigChanges (high : Bool) (s : State) : State :=
  if s.pins.trigHigh = high then s
  else
    let s := { s with pins := { s.pins with trigHigh := high } }
    if s.inReset then s
    else deliverEdge high { s with time := { s.time with trigLevel := high } }

end Sys2Proof.Machine
end

