-- ==== Sys2Proof/Machine/Resets.lean ====
section
/-! DEFINITION. The two resets (R193 to R195), block by block, and the release. -/

namespace Sys2Proof.Machine

/-- RESET_ENGINE reaches every block in one step (R193; R27, R37, R67, R98, R103, R113, R136, R154, R163, R174). The
swap is claimed by the entry into IDLE (R52, R62). -/
def engineReset (s : State) : State :=
  { s with
    conv := ConvUnit.reset
    arb := Arbiter.reset
    spot := SpotPort.reset
    cache := s.cache.invalidateAll
    list := s.list.claimSwap
    ctl := s.ctl.engineReset
    fifo := s.fifo.engineReset
    limits := mapTable LimitSlot.engineReset s.limits
    events := EventQueue.reset
    attn := s.attn.engineReset
    time := s.time.stopTimer }

/-- RESET_ENGINE (R193). -/
def resetEngine (s : State) : Answer := done (engineReset s) 0

/-- Every block takes its hard-reset values (R194); the levels on the pins and the waiting commands are the outside's,
and the TRIG detector keeps its level until the release sets it (log 14). DEDUCED (log 21): R37 ends with "Neither reset
changes the reference table, so the generations stand", R32 has a hard reset set every reference record to settle 16 and
generation 0; the part follows R32, whose table it is. -/
def hardResetValues (s : State) : State :=
  { State.reset with time := TimeBase.reset s.time.trigLevel, pins := s.pins, pending := s.pending }

/-- RST_N falls (R194). -/
def rstFalls (s : State) : State :=
  hardResetValues { s with pins := { s.pins with rstLow := true } }

/-- The part leaves reset: the TRIG detector takes the pin's level (R180, R194). A frame whose CS_N is already low is
not taken: the frame state stays IDLE until CS_N has risen. -/
def release (s : State) : State := { s with time := { s.time with trigLevel := s.pins.trigHigh } }

/-- RST_N rises (R194); the part is released once the supply is above the threshold too (R195). -/
def rstRises (s : State) : State :=
  if s.pins.rstLow then
    let s := { s with pins := { s.pins with rstLow := false } }
    if s.pins.supplyGood then release s else s
  else s

/-- The supply crosses the power-on threshold (R195). -/
def supplyCrosses (above : Bool) (s : State) : State :=
  if s.pins.supplyGood = above then s
  else
    let s := { s with pins := { s.pins with supplyGood := above } }
    if above then if s.pins.rstLow then s else release s
    else hardResetValues s

end Sys2Proof.Machine
end

