-- ==== Sys2Proof/Machine/Tables.lean ====
section
/-! DEFINITION. The channel table and the reference table (02, sections 2.1 and 2.2) and their commands. -/

namespace Sys2Proof.Machine

/-- WRITE_CHANNEL (R29). -/
def writeChannel (s : State) : Answer :=
  withArgs s (parseWriteChannel s) fun (i, c) =>
    done { s with channels := s.channels.set i c } (s.p 0)

/-- What READ_CHANNEL places in PARAM (R31, 10.6). -/
def channelParam (i : Fin 16) (c : Channel) : Vector Byte 16 :=
  #v[BitVec.ofNat 8 i, byteOfBool c.enabled, byteOfBool c.ac, c.settle,
     byteOf c.minCount.toNat 0, byteOf c.minCount.toNat 1, c.imbalance, 0, 0, 0, 0, 0, 0, 0, 0, 0]

/-- READ_CHANNEL (R31). -/
def readChannel (s : State) : Answer :=
  withArgs s (argAt 1 (indexArg 16 (s.p 0))) fun i =>
    done (s.withParam (channelParam i s.channels[i])) (s.p 0)

/-- WRITE_REFERENCE (R33, R44): the settle periods are replaced, the generation advances and the reference's windows
are invalidated, all in one step. -/
def writeReference (s : State) : Answer :=
  withArgs s (parseWriteReference s) fun (r, settle) =>
    let generation := s.references[r].generation + 1
    done { s with references := s.references.set r { settle := settle, generation := generation },
                  cache := s.cache.invalidateReference r } generation

/-- What READ_REFERENCE places in PARAM (R35, 10.6). -/
def referenceParam (r : Fin 4) (x : Reference) : Vector Byte 16 :=
  #v[BitVec.ofNat 8 r, x.settle, x.generation, 0, 0, 0, 0, 0, 0, 0, 0, 0, 0, 0, 0, 0]

/-- READ_REFERENCE (R35). -/
def readReference (s : State) : Answer :=
  withArgs s (argAt 1 (indexArg 4 (s.p 0))) fun r =>
    done (s.withParam (referenceParam r s.references[r])) (s.p 0)

end Sys2Proof.Machine
end

