-- ==== Sys2Proof/Machine/Commands.lean ====
section
/-! DEFINITION. The command register (10.6): what each command does and answers, and CMD, CMD_RESULT and CMD_DETAIL. -/

namespace Sys2Proof.Machine

/-- What a command does when it is taken, with every grant that follows in its step (R190). -/
def runCommand : Command → State → Answer
  | .startSingle, s => startSingle s
  | .startTimed, s => startTimed s
  | .armTrigger, s => armTrigger s
  | .stop, s => stopRun s
  | .abort, s => abortRun s
  | .resetEngine, s => resetEngine s
  | .setLength, s => setLength s
  | .writeEntry, s => writeEntry s
  | .readEntry, s => readEntry s
  | .commit, s => commit s
  | .writeChannel, s => writeChannel s
  | .readChannel, s => readChannel s
  | .writeReference, s => writeReference s
  | .readReference, s => readReference s
  | .preloadWindow, s => preloadWindow s
  | .readCache, s => readCache s
  | .invalidateCache, s => invalidateCache s
  | .spot, s => spotCommand s
  | .cancelSpot, s => cancelSpot s
  | .flushFifo, s => flushFifo s
  | .writeSlot, s => writeSlot s
  | .readSlot, s => readSlot s
  | .setClock, s => setClock s

/-- A code that names no command (R190). -/
def unknownCode (s : State) : Answer := refuse s .unknownCommand 0

/-- The command completes: CMD takes the code, CMD_RESULT and CMD_DETAIL its outcome (R190). -/
def complete (code : Byte) (a : Answer) : State :=
  { a.state with port := { a.state.port with cmd := code, cmdResult := a.result, cmdDetail := a.detail } }

/-- A byte written to CMD is taken as the command it names (R190). -/
def takeCode (code : Byte) (s : State) : State :=
  match commandOfCode code with
  | some c => complete code (runCommand c s)
  | none => complete code (unknownCode s)

end Sys2Proof.Machine
end

