-- ==== Sys2Proof/Machine/Port.lean ====
section
/-! DEFINITION. The host port (10): frames, the register map read and written byte by byte, staging and snapshot
bytes, and MISO. -/

namespace Sys2Proof.Machine

/-! ### Status registers -/

/-- ENGINE_STATE bits 2 to 0: the state and the hold reason (R188). -/
def EngineState.code : EngineState → BitVec 3
  | .idle => 0b000
  | .armed => 0b001
  | .scanning => 0b010
  | .holdStart => 0b011
  | .holdRecord => 0b111

/-- The mode codes (R188). -/
def Mode.code : Mode → BitVec 2
  | .single => 0
  | .timed => 1
  | .triggered => 2

/-- ENGINE_STATE (R97, R188). -/
def engineState (c : Controller) : Byte :=
  BitVec.ofBool c.grantOutstanding ++ BitVec.ofBool c.pendingTrigger ++ BitVec.ofBool c.stopRequested ++
    c.mode.code ++ c.state.code

/-- The bank codes (R188). -/
def BankId.code : BankId → BitVec 1
  | .a => 0
  | .b => 1

/-- ENGINE_ENTRY (R63, R97, R188). -/
def engineEntry (s : State) : Byte :=
  0#1 ++ BitVec.ofBool s.list.pendingFlag ++ s.list.active.code ++ BitVec.ofNat 5 s.ctl.entryIndex

/-- The phase codes (R188). -/
def Phase.code : Phase → BitVec 3
  | .idle => 0
  | .refSettle => 1
  | .refCount _ => 2
  | .snsSettle => 3
  | .snsCount => 4
  | .snsCountB => 5

/-- The holder codes (R188). -/
def holderCode : Option Requester → BitVec 2
  | none => 0
  | some .scan => 1
  | some .spot => 2

/-- The spot state codes (R188). -/
def SpotState.code : SpotState → BitVec 2
  | .none => 0
  | .waiting => 1
  | .running => 2

/-- CONV_STATE (R188). -/
def convState (s : State) : Byte :=
  0#1 ++ s.spot.state.code ++ holderCode s.arb.holder ++ s.conv.phase.code

/-- SCAN_CTRL as a byte (R189). -/
def ScanCtrl.byte (c : ScanCtrl) : Byte :=
  0#5 ++ BitVec.ofBool c.falling ++ BitVec.ofBool c.faultStop ++ BitVec.ofBool c.discard

/-- TB_SOURCE (R172). -/
def Source.byte : Source → Byte
  | .lf => 0
  | .hf => 1

/-! ### Reading -/

/-- The value a read of an address returns, once its copy has been taken (R185, 10.5). -/
def readValue (s : State) (a : Addr) : Byte :=
  match a.toNat with
  | 0x00 => s.port.cmd
  | 0x01 => s.port.cmdResult.code
  | 0x02 => s.port.cmdDetail
  | 0x03 => engineState s.ctl
  | 0x04 => engineEntry s
  | 0x05 => convState s
  | 0x06 => s.ctl.scanCtrl.byte
  | 0x07 => byteOf s.fifo.threshold 0
  | 0x08 => byteOf s.ctl.scanCount.toNat 0
  | 0x09 => byteOf s.ctl.scanCount.toNat 1
  | 0x0A => byteOf s.time.scanInterval.toNat 0
  | 0x0B => byteOf s.time.scanInterval.toNat 1
  | 0x0C => byteOf s.port.snapRemaining.toNat 0
  | 0x0D => byteOf s.port.snapRemaining.toNat 1
  | 0x0E => byteOf s.port.snapSeq.toNat 0
  | 0x0F => byteOf s.port.snapSeq.toNat 1
  | 0x10 => byteOf s.fifo.count 0
  | 0x11 => byteOf s.events.count 0
  | 0x12 => s.attn.flags
  | 0x13 => s.attn.enables
  | 0x14 => byteOf s.cache.maxAge 0
  | 0x15 => s.time.source.byte
  | 0x16 => byteOf s.time.windowMax.toNat 0
  | 0x17 => byteOf s.time.windowMax.toNat 1
  | 0x18 => byteOf s.time.windowMax.toNat 2
  | 0x19 => byteOf s.ctl.skipTally 0
  | 0x1A => byteOf s.port.snapMc.toNat 0
  | 0x1B => byteOf s.port.snapMc.toNat 1
  | 0x1C => byteOf s.port.snapMc.toNat 2
  | 0x1D => byteOf s.port.snapWc.toNat 0
  | 0x1E => byteOf s.port.snapWc.toNat 1
  | 0x1F => byteOf s.port.snapWc.toNat 2
  | n =>
    if h : 0x20 ≤ n ∧ n ≤ 0x2F then s.port.param[n - 0x20]
    else if h : 0x30 ≤ n ∧ n ≤ 0x3F then (resultBytes s.fifo.latch)[n - 0x30]
    else if h : 0x40 ≤ n ∧ n ≤ 0x47 then (eventBytes s.events.latch)[n - 0x40]
    else if h : 0x50 ≤ n ∧ n ≤ 0x5F then (spotBytes s.spot.latch)[n - 0x50]
    else 0

/-- A read of a low byte copies the whole value into the register's snapshot bytes (R187). -/
def takeSnapshot (r : SnapReg) (s : State) : State :=
  match r with
  | .scansRemaining => { s with port := { s.port with snapRemaining := BitVec.ofNat 16 s.ctl.remaining } }
  | .scanSeq => { s with port := { s.port with snapSeq := s.ctl.seq } }
  | .liveMc => { s with port := { s.port with snapMc := BitVec.ofNat 24 s.conv.mc } }
  | .liveWc => { s with port := { s.port with snapWc := BitVec.ofNat 24 s.conv.wc } }

/-- RESULT byte 0 latches the FIFO's head (R122). -/
def latchResult (s : State) : State := { s with fifo := s.fifo.latchHead }

/-- EVENT byte 0 latches the event queue's head (R159). -/
def latchEvent (s : State) : State := { s with events := s.events.latchHead }

/-- SPOT byte 0 latches the spot window (R109). -/
def latchSpot (s : State) : State := { s with spot := { s.spot with latch := s.spot.window } }

/-- EVENT byte 7 pops (R161). -/
def popEvent (s : State) : State := { s with events := s.events.popHead }

/-- The copy a read takes before it returns its byte (R109, R122, R159, R187). -/
def beforeRead (a : Addr) (s : State) : State :=
  match a.toNat with
  | 0x0C => takeSnapshot .scansRemaining s
  | 0x0E => takeSnapshot .scanSeq s
  | 0x1A => takeSnapshot .liveMc s
  | 0x1D => takeSnapshot .liveWc s
  | 0x30 => latchResult s
  | 0x40 => latchEvent s
  | 0x50 => latchSpot s
  | _ => s

/-- What a read does after it has returned its byte (R124, R161). -/
def afterRead (a : Addr) (s : State) : State :=
  match a.toNat with
  | 0x3F => popResult s
  | 0x47 => popEvent s
  | _ => s

/-- The byte is shifted out to the host and the address pointer increases, wrapping (R183). -/
def shiftOut (v : Byte) (s : State) : State :=
  { s with port := { s.port with misoByte := v, pointer := s.port.pointer + 1 },
           hostReceived := s.hostReceived ++ [v] }

/-- One data byte of a read frame: the access of the pointer's address, with every effect (R183, R185). -/
def readByte (s : State) : State :=
  let a := s.port.pointer
  let s := beforeRead a s
  afterRead a (shiftOut (readValue s a) s)

/-- `n` data bytes of a read frame, one after another (R183, R185). -/
def readBytes : Nat → State → State
  | 0, s => s
  | n + 1, s => readBytes n (readByte s)

/-- A row that reads the address `a`: one data byte where the pointer stands there; where it does not, the host first
clocks the data bytes from the pointer up to it, each under its own rule (R183, R185; log 5). Outside a read frame
nothing is accessed (R182, R194). -/
def readRow (a : Addr) (s : State) : State :=
  if s.port.frame = .read then readBytes ((a - s.port.pointer).toNat + 1) s else s

/-! ### Writing -/

/-- A staging byte is changed and nothing else (R186). -/
def stage (which : StagedByte) (v : Byte) (s : State) : State :=
  match which with
  | .scanCountLow => { s with port := { s.port with stagedCount := v } }
  | .scanIntervalLow => { s with port := { s.port with stagedInterval := v } }
  | .windowMaxLow => { s with port := { s.port with stagedMaxLow := v } }
  | .windowMaxMid => { s with port := { s.port with stagedMaxMid := v } }

/-- SCAN_COUNT's most significant byte completes it (R69, R186). -/
def completeScanCount (v : Byte) (s : State) : State := setScanCount (join16 v s.port.stagedCount) s

/-- SCAN_INTERVAL's most significant byte completes it (R177, R186). -/
def completeScanInterval (v : Byte) (s : State) : State := setScanInterval (join16 v s.port.stagedInterval) s

/-- WINDOW_MAX's most significant byte completes it (R173, R186). -/
def completeWindowMax (v : Byte) (s : State) : State :=
  setWindowMax (join24 v s.port.stagedMaxMid s.port.stagedMaxLow) s

/-- PARAM bytes are written freely; a read-only address or one that holds nothing ignores the write (R185, R192). -/
def writeParam (a : Addr) (v : Byte) (s : State) : State :=
  if h : 0x20 ≤ a.toNat ∧ a.toNat ≤ 0x2F then s.withParam (s.port.param.set (a.toNat - 0x20) v) else s

/-- What a write of an address does (R185, 10.5). -/
def writeValue (a : Addr) (v : Byte) (s : State) : State :=
  match a.toNat with
  | 0x00 => takeCode v s
  | 0x06 => writeScanCtrl v s
  | 0x07 => writeFifoThreshold v s
  | 0x08 => stage .scanCountLow v s
  | 0x09 => completeScanCount v s
  | 0x0A => stage .scanIntervalLow v s
  | 0x0B => completeScanInterval v s
  | 0x12 => clearFlags v s
  | 0x13 => setEnables v s
  | 0x14 => writeCacheMaxAge v s
  | 0x16 => stage .windowMaxLow v s
  | 0x17 => stage .windowMaxMid v s
  | 0x18 => completeWindowMax v s
  | _ => writeParam a v s

/-- The address pointer increases by one, wrapping (R183). -/
def advance (s : State) : State := { s with port := { s.port with pointer := s.port.pointer + 1 } }

/-- A row that writes the address `a`: taken where a write frame's pointer stands there (R183); elsewhere the byte is
not a write of that address, and nothing changes (log 3). -/
def writeRow (a : Addr) (f : State → State) (s : State) : State :=
  if s.port.frame = .write ∧ s.port.pointer = a then advance (f s) else s

/-- An access of the address `a`, in a frame of its direction (R182, R185; log 6). -/
def accessRow (a : Addr) (x : Access) (s : State) : State :=
  match x with
  | .read => readRow a s
  | .write v => writeRow a (writeValue a v) s

/-- The row of a command: its code is written to CMD (R190). -/
def commandRow (c : Command) (run : State → Answer) (s : State) : State :=
  writeRow 0x00#7 (fun s => complete c.code (run s)) s

/-! ### Frames -/

/-- CS_N falls: a frame begins, staging bytes cleared (R182); while reset is held only the pin moves (R194). The
bytes the host has received start anew (log 6). -/
def csFalls (s : State) : State :=
  if s.pins.csLow then s
  else
    let s := { s with pins := { s.pins with csLow := true } }
    if s.inReset then s
    else
      { s with port := { s.port with frame := .address, stagedCount := 0, stagedInterval := 0, stagedMaxLow := 0,
                                     stagedMaxMid := 0, misoByte := 0 },
               hostReceived := [] }

/-- The address byte is complete: bit 7 is the direction, bits 6 to 0 the start address (R182). -/
def takeAddress (b : Byte) (s : State) : State :=
  if s.port.frame = .address then
    { s with port := { s.port with frame := if b.getLsbD 7 then .read else .write, pointer := b.setWidth 7 } }
  else s

/-- CS_N rises: the frame ends, whatever its state, and the pointer keeps its value (R182). The data bytes of a read
frame that the command brings along are taken first, one by one (R183; log 6). -/
def csRises (reads : Nat) (s : State) : State :=
  if s.pins.csLow then
    let s := if s.port.frame = .read then readBytes reads s else s
    { s with pins := { s.pins with csLow := false }, port := { s.port with frame := .idle } }
  else s

/-- MISO: high-impedance (`none`) while CS_N is high, while reset is held, and for a frame that is not taken; else the
byte being driven, 0 but in the data bytes of a read frame (R184, R194). -/
def State.miso (s : State) : Option Byte :=
  match s.port.frame with
  | .idle => none
  | .address | .write => some 0
  | .read => some s.port.misoByte

end Sys2Proof.Machine
end

