-- ==== Sys2Proof/Machine/CommandRows.lean ====
section
/-! DEFINITION. The rows of the command register: what a write of CMD with each command's code does (10.6). -/

namespace Sys2Proof.Machine

/-- START_SINGLE (R70, R71, R190). -/
def execStartSingle (s : State) : Host.Outcome State Fault Refusal :=
  .next (commandRow .startSingle (runCommand .startSingle) s)

/-- START_TIMED (R70, R72, R190). -/
def execStartTimed (s : State) : Host.Outcome State Fault Refusal :=
  .next (commandRow .startTimed (runCommand .startTimed) s)

/-- ARM_TRIGGER (R70, R73, R190). -/
def execArmTrigger (s : State) : Host.Outcome State Fault Refusal :=
  .next (commandRow .armTrigger (runCommand .armTrigger) s)

/-- STOP (R93, R190). -/
def execStop (s : State) : Host.Outcome State Fault Refusal :=
  .next (commandRow .stop (runCommand .stop) s)

/-- ABORT (R94, R95, R190). -/
def execAbort (s : State) : Host.Outcome State Fault Refusal :=
  .next (commandRow .abort (runCommand .abort) s)

/-- RESET_ENGINE (R193). -/
def execResetEngine (s : State) : Host.Outcome State Fault Refusal :=
  .next (commandRow .resetEngine (runCommand .resetEngine) s)

/-- SET_LENGTH (R55). -/
def execSetLength (s : State) : Host.Outcome State Fault Refusal :=
  .next (commandRow .setLength (runCommand .setLength) s)

/-- WRITE_ENTRY (R54). -/
def execWriteEntry (s : State) : Host.Outcome State Fault Refusal :=
  .next (commandRow .writeEntry (runCommand .writeEntry) s)

/-- READ_ENTRY (R57). -/
def execReadEntry (s : State) : Host.Outcome State Fault Refusal :=
  .next (commandRow .readEntry (runCommand .readEntry) s)

/-- COMMIT (R59). -/
def execCommit (s : State) : Host.Outcome State Fault Refusal :=
  .next (commandRow .commit (runCommand .commit) s)

/-- WRITE_CHANNEL (R29). -/
def execWriteChannel (s : State) : Host.Outcome State Fault Refusal :=
  .next (commandRow .writeChannel (runCommand .writeChannel) s)

/-- READ_CHANNEL (R31). -/
def execReadChannel (s : State) : Host.Outcome State Fault Refusal :=
  .next (commandRow .readChannel (runCommand .readChannel) s)

/-- WRITE_REFERENCE (R33). -/
def execWriteReference (s : State) : Host.Outcome State Fault Refusal :=
  .next (commandRow .writeReference (runCommand .writeReference) s)

/-- READ_REFERENCE (R35). -/
def execReadReference (s : State) : Host.Outcome State Fault Refusal :=
  .next (commandRow .readReference (runCommand .readReference) s)

/-- PRELOAD_WINDOW (R41). -/
def execPreloadWindow (s : State) : Host.Outcome State Fault Refusal :=
  .next (commandRow .preloadWindow (runCommand .preloadWindow) s)

/-- READ_CACHE (R47). -/
def execReadCache (s : State) : Host.Outcome State Fault Refusal :=
  .next (commandRow .readCache (runCommand .readCache) s)

/-- INVALIDATE_CACHE (R46). -/
def execInvalidateCache (s : State) : Host.Outcome State Fault Refusal :=
  .next (commandRow .invalidateCache (runCommand .invalidateCache) s)

/-- SPOT (R104, R105). -/
def execSpot (s : State) : Host.Outcome State Fault Refusal :=
  .next (commandRow .spot (runCommand .spot) s)

/-- CANCEL_SPOT (R107). -/
def execCancelSpot (s : State) : Host.Outcome State Fault Refusal :=
  .next (commandRow .cancelSpot (runCommand .cancelSpot) s)

/-- FLUSH_FIFO (R127). -/
def execFlushFifo (s : State) : Host.Outcome State Fault Refusal :=
  .next (commandRow .flushFifo (runCommand .flushFifo) s)

/-- WRITE_SLOT (R137, R138). -/
def execWriteSlot (s : State) : Host.Outcome State Fault Refusal :=
  .next (commandRow .writeSlot (runCommand .writeSlot) s)

/-- READ_SLOT (R139). -/
def execReadSlot (s : State) : Host.Outcome State Fault Refusal :=
  .next (commandRow .readSlot (runCommand .readSlot) s)

/-- SET_CLOCK (R171). -/
def execSetClock (s : State) : Host.Outcome State Fault Refusal :=
  .next (commandRow .setClock (runCommand .setClock) s)

/-- UNKNOWN_COMMAND: any other code written to CMD (R190). -/
def execUnknownCommand (code : Byte) (s : State) : Host.Outcome State Fault Refusal :=
  .next (writeRow 0x00#7 (takeCode code) s)

end Sys2Proof.Machine
end

