-- ==== Sys2Proof/Machine/EventRows.lean ====
section
/-! DEFINITION. The rows of TRIG, the clocks, the oscillator, the steps of a measurement and the steps the spec takes inside others (01, 04, 05, 09). -/

namespace Sys2Proof.Machine

/-- A row that names what a period boundary does: it acts where the next boundary is of that kind, and elsewhere does
not arise (log 3). -/
def boundaryRow (k : Boundary) (s : State) : State := if s.conv.boundary = k then takeBoundary k s else s

/-- A row that names what an oscillator edge does: it acts where the next edge is of that kind, and elsewhere does
not arise (log 3). -/
def edgeRow (k : Edge) (s : State) : State := if s.conv.edge = k then takeEdge k s else s

/-- A row that names what an LF period boundary does at the scan timer: it acts where the next one is of that kind,
and elsewhere does not arise (log 3). -/
def lfRow (k : LfBoundary) (s : State) : State := if s.time.lfBoundary = k then takeLfBoundary k s else s

/-- The end of a scan-timer unit, which is the expiry where the unit is the last (R174, R176). -/
def unitRow (s : State) : State := if s.time.lfBoundary = .expiry then lfRow .expiry s else lfRow .unitEnd s

/-- TRIG_EDGE: TRIG changes its level (R179). -/
def execTrigEdge (high : Bool) (s : State) : Host.Outcome State Fault Refusal :=
  .next (trigChanges high s)

/-- SCAN_TIMER_UNIT: the LF period boundary that ends a unit (R174); where the unit is the last, it is the expiry (R176). -/
def execScanTimerUnit (s : State) : Host.Outcome State Fault Refusal :=
  .next (unitRow s)

/-- SCAN_TIMER_EXPIRY: the LF period boundary that brings the remaining units to 0 (R176). -/
def execScanTimerExpiry (s : State) : Host.Outcome State Fault Refusal :=
  .next (lfRow .expiry s)

/-- GRANT: a waiting request is granted where the unit is free (R99, R100). -/
def execGrant (s : State) : Host.Outcome State Fault Refusal :=
  .next (arbitrate s)

/-- REF_SETTLE_EXPIRY: the reference settle expires (R6). -/
def execRefSettleExpiry (s : State) : Host.Outcome State Fault Refusal :=
  .next (boundaryRow .refSettleExpiry s)

/-- OPENING_EDGE: the opening edge (R8). -/
def execOpeningEdge (s : State) : Host.Outcome State Fault Refusal :=
  .next (edgeRow .openingEdge s)

/-- REF_TIMEOUT: the reference phase passes the window limit (R8, R10). -/
def execRefTimeout (s : State) : Host.Outcome State Fault Refusal :=
  .next (boundaryRow .refTimeout s)

/-- REFERENCE_COMPLETE: the N_ref-th edge (R9, R11). -/
def execReferenceComplete (s : State) : Host.Outcome State Fault Refusal :=
  .next (edgeRow .referenceComplete s)

/-- SNS_SETTLE_EXPIRY: the channel settle expires (R7). -/
def execSnsSettleExpiry (s : State) : Host.Outcome State Fault Refusal :=
  .next (boundaryRow .snsSettleExpiry s)

/-- FIRST_HALF_END: the first half of an AC window ends (R13). -/
def execFirstHalfEnd (s : State) : Host.Outcome State Fault Refusal :=
  .next (boundaryRow .firstHalfEnd s)

/-- WINDOW_END: the window ends (R12, R13, R15 to R18). -/
def execWindowEnd (s : State) : Host.Outcome State Fault Refusal :=
  .next (boundaryRow .windowEnd s)

/-- SENSOR_OVERRANGE: a sensor edge past full scale (R14). -/
def execSensorOverrange (s : State) : Host.Outcome State Fault Refusal :=
  .next (edgeRow .sensorOverrange s)

/-- HELD_START_RETRY: a held start is attempted again once the FIFO has room (R77). -/
def execHeldStartRetry (s : State) : Host.Outcome State Fault Refusal :=
  .next (if s.ctl.state = .holdStart ∧ s.fifo.count < Config.fifoCapacity then (attemptStart s).1 else s)

/-- HELD_RECORD_REOFFER: a held record is offered again (R83). -/
def execHeldRecordReoffer (s : State) : Host.Outcome State Fault Refusal :=
  .next (if s.ctl.state = .holdRecord then reofferRecord s else s)

/-- PENDING_TRIGGER_START: a latched trigger that a scan end has left is taken up (R89; log 12). -/
def execPendingTriggerStart (s : State) : Host.Outcome State Fault Refusal :=
  .next (if s.ctl.state = .armed ∧ s.ctl.pendingTrigger then (attemptStart s).1 else s)

/-- SWAP: the claim of the swap on entering IDLE (R61, R62; log 12). -/
def execSwap (s : State) : Host.Outcome State Fault Refusal :=
  .next (if s.ctl.state = .idle then claimSwap s else s)

/-- PERIOD_BOUNDARY: a period boundary of the selected source, whatever it does to the unit (R6 to R13, R170; log 4). -/
def execPeriodBoundary (s : State) : Host.Outcome State Fault Refusal :=
  .next (takeBoundary s.conv.boundary s)

/-- OSCILLATOR_EDGE: an oscillator edge, whatever it does to the unit (R8 to R14; log 4). -/
def execOscillatorEdge (s : State) : Host.Outcome State Fault Refusal :=
  .next (takeEdge s.conv.edge s)

/-- LF_PERIOD_BOUNDARY: an LF period boundary at the scan timer, whatever it does there (R174, R176; log 4). -/
def execLfPeriodBoundary (s : State) : Host.Outcome State Fault Refusal :=
  .next (takeLfBoundary s.time.lfBoundary s)

end Sys2Proof.Machine
end

