-- ==== Sys2Proof/Machine/PortRows.lean ====
section
/-! DEFINITION. The rows of the host port, the register writes and the resets (10, and the rules of each register). -/

namespace Sys2Proof.Machine

/-- FRAME_START: CS_N falls (R182). -/
def execFrameStart (s : State) : Host.Outcome State Fault Refusal :=
  .next (csFalls s)

/-- ADDRESS_BYTE: the address byte is received (R182). -/
def execAddressByte (b : Byte) (s : State) : Host.Outcome State Fault Refusal :=
  .next (takeAddress b s)

/-- FRAME_END: CS_N rises, right after the data bytes of a read frame it brings along (R182, R183; log 6). -/
def execFrameEnd (reads : Nat) (s : State) : Host.Outcome State Fault Refusal :=
  .next (csRises reads s)

/-- RESULT_BYTE0_READ: a read of RESULT byte 0 (R122). -/
def execResultByte0Read (s : State) : Host.Outcome State Fault Refusal :=
  .next (readRow 0x30#7 s)

/-- RESULT_BYTE15_READ: a read of RESULT byte 15 (R124). -/
def execResultByte15Read (s : State) : Host.Outcome State Fault Refusal :=
  .next (readRow 0x3F#7 s)

/-- EVENT_BYTE0_READ: a read of EVENT byte 0 (R159). -/
def execEventByte0Read (s : State) : Host.Outcome State Fault Refusal :=
  .next (readRow 0x40#7 s)

/-- EVENT_BYTE7_READ: a read of EVENT byte 7 (R161). -/
def execEventByte7Read (s : State) : Host.Outcome State Fault Refusal :=
  .next (readRow 0x47#7 s)

/-- SPOT_BYTE0_READ: a read of SPOT window byte 0 (R109). -/
def execSpotByte0Read (s : State) : Host.Outcome State Fault Refusal :=
  .next (readRow 0x50#7 s)

/-- SNAPSHOT_LOW_BYTE_READ: a read of the low byte of a snapshotted value (R24, R187). -/
def execSnapshotLowByteRead (r : SnapReg) (s : State) : Host.Outcome State Fault Refusal :=
  .next (readRow r.addr s)

/-- STAGING_BYTE_WRITE: a write of a staging byte (R186). -/
def execStagingByteWrite (which : StagedByte) (v : Byte) (s : State) : Host.Outcome State Fault Refusal :=
  .next (writeRow which.addr (stage which v) s)

/-- SCAN_COUNT_WRITE: a write of SCAN_COUNT's most significant byte (R69, R186). -/
def execScanCountWrite (v : Byte) (s : State) : Host.Outcome State Fault Refusal :=
  .next (writeRow 0x09#7 (completeScanCount v) s)

/-- SCAN_INTERVAL_WRITE: a write of SCAN_INTERVAL's most significant byte (R177, R186). -/
def execScanIntervalWrite (v : Byte) (s : State) : Host.Outcome State Fault Refusal :=
  .next (writeRow 0x0B#7 (completeScanInterval v) s)

/-- WINDOW_MAX_WRITE: a write of WINDOW_MAX's most significant byte (R173, R186). -/
def execWindowMaxWrite (v : Byte) (s : State) : Host.Outcome State Fault Refusal :=
  .next (writeRow 0x18#7 (completeWindowMax v) s)

/-- SCAN_CTRL_WRITE: a write of SCAN_CTRL (R68, R189). -/
def execScanCtrlWrite (v : Byte) (s : State) : Host.Outcome State Fault Refusal :=
  .next (writeRow 0x06#7 (writeScanCtrl v) s)

/-- FIFO_THRESHOLD_WRITE: a write of FIFO_THRESHOLD (R130). -/
def execFifoThresholdWrite (v : Byte) (s : State) : Host.Outcome State Fault Refusal :=
  .next (writeRow 0x07#7 (writeFifoThreshold v) s)

/-- CACHE_MAX_AGE_WRITE: a write of CACHE_MAX_AGE (R39). -/
def execCacheMaxAgeWrite (v : Byte) (s : State) : Host.Outcome State Fault Refusal :=
  .next (writeRow 0x14#7 (writeCacheMaxAge v) s)

/-- ATTN_FLAGS_WRITE: a write of ATTN_FLAGS (R165). -/
def execAttnFlagsWrite (v : Byte) (s : State) : Host.Outcome State Fault Refusal :=
  .next (writeRow 0x12#7 (clearFlags v) s)

/-- ATTN_ENABLE_WRITE: a write of ATTN_ENABLE (R167). -/
def execAttnEnableWrite (v : Byte) (s : State) : Host.Outcome State Fault Refusal :=
  .next (writeRow 0x13#7 (setEnables v) s)

/-- REGISTER_WRITE: an access of an address, under the rule of that address (R185, R192; logs 4 and 6). -/
def execRegisterWrite (a : Addr) (x : Access) (s : State) : Host.Outcome State Fault Refusal :=
  .next (accessRow a x s)

/-- HARD_RESET: RST_N falls (R194). -/
def execHardReset (s : State) : Host.Outcome State Fault Refusal :=
  .next (rstFalls s)

/-- RESET_RELEASE: RST_N rises (R194). -/
def execResetRelease (s : State) : Host.Outcome State Fault Refusal :=
  .next (rstRises s)

/-- POWER_ON_RESET: the supply crosses the power-on threshold (R195). -/
def execPowerOnReset (above : Bool) (s : State) : Host.Outcome State Fault Refusal :=
  .next (supplyCrosses above s)

end Sys2Proof.Machine
end

