-- ==== Sys2Proof/Machine/Dispatch.lean ====
section
/-! DEFINITION. One arm per row of spec/opcode_table.json: the meaning of each command on everything but the queue. -/

namespace Sys2Proof.Machine

def exec (i : Instr) (s : State) : Host.Outcome State Fault Refusal :=
  match i with
  | .startSingle => Sys2Proof.Machine.execStartSingle s
  | .startTimed => Sys2Proof.Machine.execStartTimed s
  | .armTrigger => Sys2Proof.Machine.execArmTrigger s
  | .stop => Sys2Proof.Machine.execStop s
  | .abort => Sys2Proof.Machine.execAbort s
  | .resetEngine => Sys2Proof.Machine.execResetEngine s
  | .setLength => Sys2Proof.Machine.execSetLength s
  | .writeEntry => Sys2Proof.Machine.execWriteEntry s
  | .readEntry => Sys2Proof.Machine.execReadEntry s
  | .commit => Sys2Proof.Machine.execCommit s
  | .writeChannel => Sys2Proof.Machine.execWriteChannel s
  | .readChannel => Sys2Proof.Machine.execReadChannel s
  | .writeReference => Sys2Proof.Machine.execWriteReference s
  | .readReference => Sys2Proof.Machine.execReadReference s
  | .preloadWindow => Sys2Proof.Machine.execPreloadWindow s
  | .readCache => Sys2Proof.Machine.execReadCache s
  | .invalidateCache => Sys2Proof.Machine.execInvalidateCache s
  | .spot => Sys2Proof.Machine.execSpot s
  | .cancelSpot => Sys2Proof.Machine.execCancelSpot s
  | .flushFifo => Sys2Proof.Machine.execFlushFifo s
  | .writeSlot => Sys2Proof.Machine.execWriteSlot s
  | .readSlot => Sys2Proof.Machine.execReadSlot s
  | .setClock => Sys2Proof.Machine.execSetClock s
  | .unknownCommand code => Sys2Proof.Machine.execUnknownCommand code s
  | .frameStart => Sys2Proof.Machine.execFrameStart s
  | .addressByte b => Sys2Proof.Machine.execAddressByte b s
  | .frameEnd reads => Sys2Proof.Machine.execFrameEnd reads s
  | .resultByte0Read => Sys2Proof.Machine.execResultByte0Read s
  | .resultByte15Read => Sys2Proof.Machine.execResultByte15Read s
  | .eventByte0Read => Sys2Proof.Machine.execEventByte0Read s
  | .eventByte7Read => Sys2Proof.Machine.execEventByte7Read s
  | .spotByte0Read => Sys2Proof.Machine.execSpotByte0Read s
  | .snapshotLowByteRead r => Sys2Proof.Machine.execSnapshotLowByteRead r s
  | .stagingByteWrite which v => Sys2Proof.Machine.execStagingByteWrite which v s
  | .scanCountWrite v => Sys2Proof.Machine.execScanCountWrite v s
  | .scanIntervalWrite v => Sys2Proof.Machine.execScanIntervalWrite v s
  | .windowMaxWrite v => Sys2Proof.Machine.execWindowMaxWrite v s
  | .scanCtrlWrite v => Sys2Proof.Machine.execScanCtrlWrite v s
  | .fifoThresholdWrite v => Sys2Proof.Machine.execFifoThresholdWrite v s
  | .cacheMaxAgeWrite v => Sys2Proof.Machine.execCacheMaxAgeWrite v s
  | .attnFlagsWrite v => Sys2Proof.Machine.execAttnFlagsWrite v s
  | .attnEnableWrite v => Sys2Proof.Machine.execAttnEnableWrite v s
  | .registerWrite a x => Sys2Proof.Machine.execRegisterWrite a x s
  | .hardReset => Sys2Proof.Machine.execHardReset s
  | .resetRelease => Sys2Proof.Machine.execResetRelease s
  | .powerOnReset above => Sys2Proof.Machine.execPowerOnReset above s
  | .trigEdge high => Sys2Proof.Machine.execTrigEdge high s
  | .scanTimerUnit => Sys2Proof.Machine.execScanTimerUnit s
  | .scanTimerExpiry => Sys2Proof.Machine.execScanTimerExpiry s
  | .grant => Sys2Proof.Machine.execGrant s
  | .refSettleExpiry => Sys2Proof.Machine.execRefSettleExpiry s
  | .openingEdge => Sys2Proof.Machine.execOpeningEdge s
  | .refTimeout => Sys2Proof.Machine.execRefTimeout s
  | .referenceComplete => Sys2Proof.Machine.execReferenceComplete s
  | .snsSettleExpiry => Sys2Proof.Machine.execSnsSettleExpiry s
  | .firstHalfEnd => Sys2Proof.Machine.execFirstHalfEnd s
  | .windowEnd => Sys2Proof.Machine.execWindowEnd s
  | .sensorOverrange => Sys2Proof.Machine.execSensorOverrange s
  | .heldStartRetry => Sys2Proof.Machine.execHeldStartRetry s
  | .heldRecordReoffer => Sys2Proof.Machine.execHeldRecordReoffer s
  | .pendingTriggerStart => Sys2Proof.Machine.execPendingTriggerStart s
  | .swap => Sys2Proof.Machine.execSwap s
  | .periodBoundary => Sys2Proof.Machine.execPeriodBoundary s
  | .oscillatorEdge => Sys2Proof.Machine.execOscillatorEdge s
  | .lfPeriodBoundary => Sys2Proof.Machine.execLfPeriodBoundary s

end Sys2Proof.Machine
end

