-- ==== Sys2Proof/WellFormed.lean ====
section
/-! DEFINITION. When a command's operands are the row's own: REGISTER_WRITE names an address that no other row
writes, or reads, as it does (R185), and UNKNOWN_COMMAND a code that names no command (R190). Every other operand fills its type. An
ill-formed command is not stopped: its byte is taken all the same, under the rule of the address it names (log 4). -/

namespace Sys2Proof

/-- The addresses whose write has a row of its own: CMD, the one-byte writable registers and the staged ones (10.5). -/
def ownWriteRows : List Addr :=
  [0x00#7, 0x06#7, 0x07#7, 0x08#7, 0x09#7, 0x0A#7, 0x0B#7, 0x12#7, 0x13#7, 0x14#7, 0x16#7, 0x17#7, 0x18#7]

/-- The addresses whose read has a row of its own, because it has an effect besides returning its byte (R109, R122,
R124, R159, R161, R187). -/
def ownReadRows : List Addr :=
  [0x0C#7, 0x0E#7, 0x1A#7, 0x1D#7, 0x30#7, 0x3F#7, 0x40#7, 0x47#7, 0x50#7]

/-- The row-specific checks of a command's operands. -/
def Instr.wellFormed : Instr → Bool
  | .registerWrite a .read => !ownReadRows.contains a
  | .registerWrite a (.write _) => !ownWriteRows.contains a
  | .unknownCommand code => (commandOfCode code).isNone
  | .startSingle | .startTimed | .armTrigger | .stop | .abort | .resetEngine | .setLength | .writeEntry
  | .readEntry | .commit | .writeChannel | .readChannel | .writeReference | .readReference | .preloadWindow
  | .readCache | .invalidateCache | .spot | .cancelSpot | .flushFifo | .writeSlot | .readSlot | .setClock
  | .frameStart | .addressByte _ | .frameEnd _ | .resultByte0Read | .resultByte15Read | .eventByte0Read
  | .eventByte7Read | .spotByte0Read | .snapshotLowByteRead _ | .stagingByteWrite _ _ | .scanCountWrite _
  | .scanIntervalWrite _ | .windowMaxWrite _ | .scanCtrlWrite _ | .fifoThresholdWrite _ | .cacheMaxAgeWrite _
  | .attnFlagsWrite _ | .attnEnableWrite _ | .hardReset | .resetRelease | .powerOnReset _ | .trigEdge _
  | .scanTimerUnit | .scanTimerExpiry | .grant | .refSettleExpiry | .openingEdge | .refTimeout
  | .referenceComplete | .snsSettleExpiry | .firstHalfEnd | .windowEnd | .sensorOverrange | .heldStartRetry
  | .heldRecordReoffer | .pendingTriggerStart | .swap | .periodBoundary | .oscillatorEdge
  | .lfPeriodBoundary => true

end Sys2Proof
end

