-- ==== Sys2Proof/Safety.lean ====
section
/-! DEFINITION. The laws the spec states of the part as a whole, each as a predicate of one state: what every command
must keep. The statements of Certificates/Slice0/Obligations.lean are written in these terms. -/

namespace Sys2Proof.Machine

/-- A write frame whose next data byte writes the address `a` (R183). -/
abbrev WritingAt (a : Addr) (s : State) : Prop := s.port.frame = .write ∧ s.port.pointer = a

/-- A read frame whose next data byte reads the address `a` (R183). -/
abbrev ReadingAt (a : Addr) (s : State) : Prop := s.port.frame = .read ∧ s.port.pointer = a

/-- A scan is in progress: from its start to its SCAN_END append (R76, R118). -/
abbrev ScanInProgress (s : State) : Prop := s.ctl.state = .scanning ∨ s.ctl.state = .holdRecord

/-- The part takes accesses: neither RST_N low nor the supply below the threshold (R194, R195). -/
abbrev Released (s : State) : Prop := s.pins.rstLow = false ∧ s.pins.supplyGood = true

/-- The holder is NONE exactly when the unit is IDLE, and the unit's owner is the holder (R4). -/
abbrev HolderMatchesUnit (s : State) : Prop :=
  (s.arb.holder = none ↔ s.conv.phase = .idle) ∧ s.conv.owner = s.arb.holder

/-- What is in the oscillator loop, the polarity and the excitation lines follow the phase (R1): the lines are idle
(`none`) outside the sensor phases and drive the sensor with the polarity within them. -/
def OscillatorFollowsPhase (s : State) : Prop :=
  match s.conv.phase with
  | .idle => s.conv.osc = .parked ∧ s.conv.polarity = .a ∧ s.excitation = none
  | .refSettle | .refCount _ =>
    s.conv.osc = .reference s.conv.request.reference ∧ s.conv.polarity = .a ∧ s.excitation = none
  | .snsSettle | .snsCount =>
    s.conv.osc = .channel s.conv.request.channel ∧ s.conv.polarity = .a ∧ s.excitation = some .a
  | .snsCountB =>
    s.conv.osc = .channel s.conv.request.channel ∧ s.conv.polarity = .b ∧ s.excitation = some .b

/-- The reservation is held exactly while a scan is in progress, and the records and the reservation fit (R118). -/
abbrev ReservationLaw (s : State) : Prop :=
  (s.fifo.reserved = true ↔ ScanInProgress s) ∧ s.fifo.taken ≤ Config.fifoCapacity

/-- At most eight valid slots, at most one for each key, no age above 15 (R36). -/
abbrev CacheLaw (s : State) : Prop :=
  s.cache.slots.length ≤ Config.cacheSlots ∧
  s.cache.slots.Pairwise (fun e f => ¬(e.reference = f.reference ∧ e.target = f.target)) ∧
  ∀ e ∈ s.cache.slots, e.age ≤ Config.maxAge

/-- One slot's pending change (R135), its configuration in range (R134). -/
abbrev LimitSlot.Law (l : LimitSlot) : Prop :=
  l.pendingCount < l.persistence ∧ (l.pendingCount = 0 ↔ l.pendingDir = none) ∧
  (∀ b, l.pendingDir = some b → l.state ≠ some b) ∧ 1 ≤ l.persistence ∧ l.persistence ≤ 15 ∧ l.low ≤ l.high

/-- Every limit slot keeps its law (R134, R135). -/
abbrev SlotLaw (s : State) : Prop := ∀ i : Fin 16, s.limits[i].Law

/-- The pending flag is never set while the controller is IDLE (R62). -/
abbrev NoCommitWaitsInIdle (s : State) : Prop := s.ctl.state = .idle → s.list.pendingFlag = false

/-- A scan starts and goes on only with an active bank of at least one entry, and the walk stands inside it (R53,
R64); a commit waits only with an edit bank of at least one entry (R59). -/
abbrev ListLaw (s : State) : Prop :=
  (s.ctl.state ≠ .idle → s.list.activeBank.length ≠ 0) ∧
  (ScanInProgress s → s.ctl.entryIndex.val < s.list.activeBank.length.val) ∧
  (s.list.pendingFlag = true → s.list.editBank.length ≠ 0)

/-- The port is in IDLE, and MISO high-impedance (R184), while CS_N is high (R182) and while the part is held in hard
reset (R194). -/
abbrev FrameLaw (s : State) : Prop :=
  s.pins.csLow = false ∨ ¬Released s → s.port.frame = .idle ∧ s.miso = none

/-- The event queue never holds more than 16 records (R157), and while its latch is not consumed the latched record is
the head (R161). -/
abbrev EventQueueLaw (s : State) : Prop :=
  s.events.count ≤ Config.eventCapacity ∧
  (s.events.consumed = false → s.events.latch = s.events.records.head? ∧ s.events.records ≠ [])

/-- While the FIFO's latch is not consumed, the latched record is the head (R124). -/
abbrev ResultLatchLaw (s : State) : Prop :=
  s.fifo.consumed = false → s.fifo.latch = s.fifo.records.head? ∧ s.fifo.records ≠ []

/-- The flags of the controller in its states (R97): outside a scan nothing is stop-requested, granted or held; a
pending trigger stands in HOLD(START) and in no state without a scan; a held record stands exactly in HOLD(RECORD). -/
abbrev ControllerLaw (s : State) : Prop :=
  (¬ScanInProgress s → s.ctl.stopRequested = false) ∧
  (s.ctl.state = .idle ∨ s.ctl.state = .armed → s.ctl.pendingTrigger = false) ∧
  (s.ctl.state = .holdStart → s.ctl.pendingTrigger = true) ∧
  (s.ctl.held.isSome = true ↔ s.ctl.state = .holdRecord) ∧
  (s.ctl.grantOutstanding = true → s.ctl.state = .scanning)

/-- In a scan in progress, entries measured is the entry index, and faults and discarded do not exceed it (R85,
R196). -/
abbrev TallyLaw (s : State) : Prop :=
  ScanInProgress s →
    s.ctl.measured = s.ctl.entryIndex.val ∧ s.ctl.faults ≤ s.ctl.measured ∧ s.ctl.discarded ≤ s.ctl.measured

/-- The scan timer is stopped in IDLE (R178), a stopped timer stands at 0 (R174), and a running one has at least one
unit remaining (R174 to R176), because SCAN_INTERVAL is never 0 (R177). -/
abbrev TimerLaw (s : State) : Prop :=
  (s.ctl.state = .idle → s.time.timerRunning = false) ∧
  (s.time.timerRunning = false → s.time.timerRemaining = 0 ∧ s.time.prescaler = 0) ∧
  (s.time.timerRunning = true → 1 ≤ s.time.timerRemaining) ∧
  s.time.scanInterval ≠ 0 ∧ s.time.prescaler < Config.unitPeriods

/-- Every register that has a range is inside it: FIFO_THRESHOLD (R130), CACHE_MAX_AGE (R39), WINDOW_MAX (R173),
SCAN_INTERVAL (R177), the skip tally and scans remaining (R65), and the min counts (R28). -/
abbrev RegisterLaw (s : State) : Prop :=
  (1 ≤ s.fifo.threshold ∧ s.fifo.threshold ≤ Config.fifoCapacity) ∧ s.cache.maxAge ≤ Config.maxAge ∧
  Config.minWindow ≤ s.time.windowMax.toNat ∧ s.time.scanInterval ≠ 0 ∧
  s.ctl.skipTally ≤ Config.maxSkips ∧ s.ctl.remaining ≤ 65535 ∧
  (∀ c : Fin 16, s.channels[c].minCount ≠ 0) ∧ s.conv.chan.minCount ≠ 0

/-- How far a measurement has come in each phase (R5 to R13): no window has been obtained while the reference is
measured, MC has not reached N_ref, WC has not reached the window, and a sensor phase has a window of at least 16. -/
def PhaseLaw (c : ConvUnit) : Prop :=
  match c.phase with
  | .idle => True
  | .refSettle => c.window = none
  | .refCount opened => c.window = none ∧ (opened = true → c.mc < c.request.nRef)
  | .snsSettle => Config.minWindow ≤ c.w
  | .snsCount => Config.minWindow ≤ c.w ∧ c.wc < c.w ∧ (c.chan.ac = true → c.wc < c.w / 2)
  | .snsCountB => Config.minWindow ≤ c.w ∧ c.wc < c.w ∧ c.n1 ≤ c.mc

/-- The counters of a measurement stay in their ranges (01, section 1.1): MC, WC and the window in hand within full
scale, the repetition index from 1 to n, S within what the repetitions counted so far can add up to. -/
def CounterLaw (s : State) : Prop :=
  (s.conv.mc ≤ Config.fullScale ∧ s.conv.wc ≤ Config.fullScale ∧ s.conv.w ≤ Config.fullScale) ∧
  (1 ≤ s.conv.repIndex ∧ s.conv.repIndex ≤ s.conv.request.reps) ∧
  s.conv.acc ≤ 8 * Config.fullScale ∧
  (s.conv.phase ≠ .idle → s.conv.acc ≤ (s.conv.repIndex - 1) * Config.fullScale) ∧
  PhaseLaw s.conv ∧
  ∀ e ∈ s.cache.slots, Config.minWindow ≤ e.window ∧ e.window ≤ Config.fullScale

/-- No request waits while the unit is free (R99, R100). -/
abbrev NoRequestWaitsForAFreeUnit (s : State) : Prop :=
  s.arb.holder = none → s.arb.scanReq = none ∧ s.arb.spotReq = none

/-- The spot state says where the spot is (R103): WAITING exactly while its request waits at the arbiter, RUNNING
exactly while the unit serves it. -/
abbrev SpotLaw (s : State) : Prop :=
  (s.spot.state = .waiting ↔ s.arb.spotReq.isSome = true) ∧ (s.spot.state = .running ↔ s.arb.holder = some .spot)

/-- Grant outstanding says that the scan's request waits at the arbiter (R65, R98), and the unit serves the scan in
SCANNING alone. -/
abbrev ScanRequestLaw (s : State) : Prop :=
  (s.ctl.grantOutstanding = true ↔ s.arb.scanReq.isSome = true) ∧
  (s.arb.holder = some .scan → s.ctl.state = .scanning) ∧
  (s.arb.scanReq.isSome = true → s.arb.holder ≠ some .scan)

/-! ### What a step leaves, in the words of the rules

The statements name the state after a command by these. Each is one change of the part; where the walk goes on to an
entry it says `reachOn`, which DisabledEntriesAreRecordedAtOnce takes apart by the entry's channel. -/

/-- What CMD, CMD_RESULT and CMD_DETAIL hold once a command has completed, the byte of CMD having been written
(R183, R190, R191). -/
def State.answered (s : State) (code : Byte) (r : CmdResult) (detail : Byte) : State :=
  { s with port := { s.port with pointer := 0x01#7, cmd := code, cmdResult := r, cmdDetail := detail } }

/-- A data byte of a write frame has been written (R183). -/
def State.written (s : State) : State := { s with port := { s.port with pointer := s.port.pointer + 1 } }

/-- A data byte of a read frame has been read: the pointer has moved on and the host has the byte (R183, R184). -/
def State.read (s : State) (v : Byte) : State :=
  { s with port := { s.port with pointer := s.port.pointer + 1, misoByte := v },
           hostReceived := s.hostReceived ++ [v] }

/-- The position of the first argument out of range, counting from 1 (R191): `ok` says of each argument, in the
command's order, whether it is in range. -/
def firstBad (ok : List Bool) : Option Nat := (ok.findIdx? fun b => !b).map (· + 1)

/-- An accepted start command's own part (R68, R71 to R73). -/
def State.runBegun (s : State) (m : Mode) (remaining : Nat) : State :=
  { s with ctl := { s.ctl with snapshot := s.ctl.scanCtrl, mode := m, remaining := remaining } }

/-- The entry the walk stands at (R78). -/
def State.entryInHand (s : State) : Entry := s.list.activeBank.entries[s.ctl.entryIndex]

/-- The walk has requested the entry it stands at (R78). -/
def State.entryRequested (s : State) : State :=
  { s with ctl := { s.ctl with grantOutstanding := true },
           arb := { s.arb with scanReq := some s.entryInHand.request } }

/-- A scan has started and reached entry 0 (R74, R76, R78). -/
def State.scanStarted (s : State) : State :=
  reachOn
    { s with
      list := s.list.claimSwap
      fifo := { s.fifo with reserved := true }
      ctl := { s.ctl with
        state := .scanning, seq := s.ctl.seq + 1, snapshot := s.ctl.scanCtrl, measured := 0, faults := 0,
        discarded := 0, entryIndex := 0, stopRequested := false, grantOutstanding := false, held := none,
        pendingTrigger := false } }

/-- A start is held for want of room: HOLD(START), the trigger pending, HOLD raised (R74). -/
def State.startHeld (s : State) : State :=
  { s with list := s.list.claimSwap, ctl := { s.ctl with state := .holdStart, pendingTrigger := true },
           attn := { s.attn with flags := s.attn.flags ||| 0x08#8 } }

/-- A scan is skipped under DISCARD (R75). -/
def State.startSkipped (s : State) : State :=
  { s with list := s.list.claimSwap,
           ctl := { s.ctl with state := .armed, pendingTrigger := false, skipTally := min (s.ctl.skipTally + 1) 255 } }

/-- A scan start attempt (R74 to R76). -/
def State.attempted (s : State) : State :=
  if s.fifo.records.length < 32 then s.scanStarted
  else if s.ctl.scanCtrl.discard then s.startSkipped
  else s.startHeld

/-- A trigger has been taken (R90, R91). -/
def State.triggerTaken (s : State) : State :=
  match s.ctl.state with
  | .idle => s
  | .armed => s.attempted
  | .scanning | .holdStart | .holdRecord =>
    if s.ctl.pendingTrigger then
      { s with ctl := { s.ctl with skipTally := min (s.ctl.skipTally + 1) 255 },
               attn := { s.attn with flags := s.attn.flags ||| 0x40#8 } }
    else { s with ctl := { s.ctl with pendingTrigger := true } }

/-- A record has been placed after the tail and the threshold checked (R119, R131). -/
def State.appended (s : State) (r : FifoRecord) : State :=
  { s with
    fifo := { s.fifo with records := s.fifo.records ++ [r] }
    attn := { s.attn with
      flags := if s.fifo.records.length + 1 = s.fifo.threshold then s.attn.flags ||| 0x02#8 else s.attn.flags } }

/-- The scan has ended: steps 1 to 5 of R88. -/
def State.scanClosed (s : State) (t : Termination) : State :=
  let a := s.appended (.scanEnd { termination := t, seq := s.ctl.seq, measured := s.ctl.measured,
                                  faults := s.ctl.faults, discarded := s.ctl.discarded, skipped := s.ctl.skipTally })
  { a with
    fifo := { a.fifo with reserved := false }
    ctl := { s.ctl with skipTally := 0, remaining := s.ctl.remaining - 1 }
    cache := { s.cache with slots := s.cache.slots.map fun e => { e with age := min (e.age + 1) 15 } }
    attn := { a.attn with flags := a.attn.flags ||| 0x01#8 } }

/-- The controller has entered IDLE (R89, R62, R178). -/
def State.atRest (s : State) : State :=
  { s with
    ctl := { s.ctl with state := .idle, stopRequested := false, pendingTrigger := false }
    time := { s.time with timerRunning := false, timerRemaining := 0, prescaler := 0 }
    list := s.list.claimSwap }

/-- The scan has ended and the next state is decided (R88, R89); a latched trigger makes the next start attempt. -/
def State.scanEnded (s : State) (t : Termination) : State :=
  let c := s.scanClosed t
  if t ≠ .complete ∨ s.ctl.mode = .single ∨ s.ctl.stopRequested = true ∨
      (0 < s.ctl.remaining ∧ s.ctl.remaining - 1 = 0) then c.atRest
  else if s.ctl.pendingTrigger then c.attempted
  else { c with ctl := { c.ctl with state := .armed } }

/-- A record has left the controller, appended or dropped, and is counted (R85). -/
def State.counted (s : State) (r : MeasRecord) (dropped : Bool) : State :=
  { s with ctl := { s.ctl with
      measured := s.ctl.measured + 1
      faults := if r.status.code.toNat ∈ [1, 2, 3, 4] then s.ctl.faults + 1 else s.ctl.faults
      discarded := if dropped then s.ctl.discarded + 1 else s.ctl.discarded } }

/-- The walk has moved on from a counted record (R86, R87). -/
def State.walkedOn (s : State) (r : MeasRecord) : State :=
  if s.ctl.snapshot.faultStop = true ∧ r.status.code.toNat ∈ [1, 2, 3, 4] then s.scanEnded .faulted
  else if h : s.ctl.entryIndex.val + 1 < s.list.activeBank.length.val then
    have : s.ctl.entryIndex.val + 1 < 32 := by omega
    reachOn { s with ctl := { s.ctl with entryIndex := ⟨s.ctl.entryIndex.val + 1, this⟩ } }
  else s.scanEnded .complete

/-- The MEASUREMENT record of a result for the entry the walk stands at (R80). -/
def State.measurement (s : State) (r : Result) : MeasRecord :=
  let e := s.entryInHand
  { status := r.status, warnings := r.warnings, ratioValid := r.ratioValid, entryIndex := s.ctl.entryIndex,
    tag := e.tag, channel := e.channel, reference := e.reference, repeatCode := e.repeatCode, seq := s.ctl.seq,
    window := r.window, count := r.count, ratio := r.ratio }

/-- A built record has been offered to the FIFO and what follows has been done (R81 step 3, R82, R84 to R87). -/
def State.recordOffered (s : State) (r : MeasRecord) : State :=
  if s.fifo.records.length + s.fifo.reserved.toNat ≤ 31 then
    ((s.appended (.measurement r)).counted r false).walkedOn r
  else if s.ctl.snapshot.discard then (s.counted r true).walkedOn r
  else
    { s with ctl := { s.ctl with state := .holdRecord, held := some r },
             attn := { s.attn with flags := s.attn.flags ||| 0x08#8 } }

/-- The record of an entry whose channel is disabled: no window, no count, no ratio, no warning (R78, R80). -/
def State.disabledRecord (s : State) : MeasRecord :=
  s.measurement { status := .channelDisabled, warnings := { imbalance := false, cached := false, ratioSat := false },
                  ratioValid := false, window := 0, count := 0, ratio := 0 }

/-- The unit has returned to IDLE and released the oscillator (R1, R4, R23). -/
def State.unitReleased (s : State) : State :=
  { s with conv := { s.conv with phase := .idle, owner := none, osc := .parked, polarity := .a },
           arb := { s.arb with holder := none } }

/-- The spot has ended with a result (R106). -/
def State.spotEnded (s : State) (r : Result) : State :=
  { s with
    spot := { s.spot with
      state := .none
      window := some
        { status := r.status, warnings := r.warnings, ratioValid := r.ratioValid, entryIndex := 0, tag := 0,
          channel := s.spot.request.channel, reference := s.spot.request.reference,
          repeatCode := s.spot.request.repeatCode, seq := s.ctl.seq, window := r.window, count := r.count,
          ratio := r.ratio } }
    attn := { s.attn with flags := s.attn.flags ||| 0x80#8 } }

/-- Whom a free arbiter grants, and with which request (R100). -/
abbrev Chosen (s : State) (who : Requester) (q : Request) : Prop :=
  s.arb.holder = none ∧
  match who with
  | .scan => s.arb.scanReq = some q ∧ (s.arb.spotReq = none ∨ s.arb.lastGrant = .spot)
  | .spot => s.arb.spotReq = some q ∧ (s.arb.scanReq = none ∨ s.arb.lastGrant = .scan)

/-- A grant has been made, and the checks of R3 and the cache step of R5 come next (R2, R99). -/
def State.granted (s : State) (who : Requester) (q : Request) : State :=
  { s with
    arb := { holder := some who, lastGrant := who,
             scanReq := if who = .scan then none else s.arb.scanReq,
             spotReq := if who = .spot then none else s.arb.spotReq }
    ctl := { s.ctl with grantOutstanding := if who = .scan then false else s.ctl.grantOutstanding }
    spot := { s.spot with state := if who = .spot then .running else s.spot.state }
    conv := { s.conv with
      owner := some who, request := q, chan := s.channels[q.channel], ref := s.references[q.reference],
      windowLimit := s.time.windowMax, mc := 0, wc := 0, window := none, repIndex := 1, n1 := 0, acc := 0,
      warnings := { imbalance := false, cached := false, ratioSat := false } } }

/-- The reference phase begins: REF_SETTLE, or REF_COUNT where the settle is 0 (R6, R8). -/
def State.referenceBegun (s : State) : State :=
  { s with conv := { s.conv with
      phase := if s.conv.ref.settle = 0 then .refCount false else .refSettle
      osc := .reference s.conv.request.reference, polarity := .a, mc := 0, wc := 0 } }

/-- The sensor phase begins: SNS_SETTLE (R7). -/
def State.sensorBegun (s : State) : State :=
  { s with conv := { s.conv with
      phase := .snsSettle, osc := .channel s.conv.request.channel, polarity := .a, mc := 0, wc := 0 } }

/-- The slots of the cache that hold another key (R36, R43). -/
def State.otherKeys (s : State) (r : Fin 4) (k : Fin 13) : List CacheSlot :=
  s.cache.slots.filter fun e => !(decide (e.reference = r) && decide (e.target = k))

end Sys2Proof.Machine
end

