-- ==== Sys2Proof/Certificates/Slice0/Obligations.lean ====
section
/-! DEFINITION. The statements for the provers. Where a step lets the arbiter decide, the statement says so by what the
row GRANT makes of the state before the decision; the row itself is stated in GrantChoosesAndBegins and
GrantOfADisabledChannel. -/

open Sys2Proof Sys2Proof.Machine

/-! ### The queue, the resets -/

/-- The command at the front of the queue is run on the rest of the part with the queue's rest left waiting; on an
empty queue the part idles. The queue is the model's own (log 1), and idling on an empty one is its choice (log 2). -/
def Obligations.StepRunsTheFrontCommand : Prop :=
  (∀ (c : Instr) (s : State), step { s with pending := c :: s.pending } = exec c s) ∧
  (∀ s : State, s.pending = [] → step s = .next s)

/-- Every row completes when it is taken, in every state, and leaves the waiting commands as they are. R190 and R191 say
so of the commands written to CMD. That a row whose condition does not hold completes and changes nothing is the model's
choice (log 3), and the queue is the model's own (log 1). -/
def Obligations.EveryCommandCompletes : Prop :=
  ∀ (c : Instr) (s : State), ∃ t, exec c s = .next t ∧ t.pending = s.pending

/-- What a read of each of the 128 addresses returns right after a hard reset (10.5). -/
def Obligations.RegisterMapAfterReset : Prop :=
  ∀ a : Addr, readValue (beforeRead a State.reset) a =
    if a = 0x07#7 then 0x10#8
    else if a = 0x0B#7 ∨ a = 0x14#7 then 0x04#8
    else if 0x16#7 ≤ a ∧ a ≤ 0x18#7 then 0xFF#8
    else 0x00#8

/-- RST_N falling, and the supply falling below its threshold, return every block to its hard-reset values in every
state (R194, R195): each value is written out. What the rules do not give is the model's choice: the unit's request,
snapshots and window limit (log 8), `hostReceived` (log 6), the TRIG level, kept until the release (log 14), the pins
and the queue, which are the outside's (logs 1 and 7), and R32 before R37 on the reference table (log 21). `State.reset`
is these values with the pins of log 7. -/
def Obligations.HardResetReturnsEveryBlock : Prop :=
  let request : Request := { channel := 0, reference := 0, target := 0, repeatCode := 0, fresh := false }
  let channel : Channel := { enabled := false, ac := false, settle := 16#8, minCount := 1#16, imbalance := 0#8 }
  let reference : Reference := { settle := 16#8, generation := 0#8 }
  let entry : Entry :=
    { channel := 0, reference := 0, target := 0, repeatCode := 0, fresh := false, slot := none, tag := 0#8 }
  let bank : Bank := { entries := Vector.replicate 32 entry, length := 0 }
  let control : ScanCtrl := { discard := false, faultStop := false, falling := false }
  let slot : LimitSlot :=
    { enabled := false, low := 0#24, high := 0xFFFFFF#24, hysteresis := 0#24, persistence := 1, state := none,
      pendingDir := none, pendingCount := 0 }
  let values (trigLevel : Bool) (pins : Pins) (pending : List Instr) : State :=
    { conv :=
        { phase := .idle, owner := none, request := request, chan := channel, ref := reference,
          windowLimit := 0xFFFFFF#24, osc := .parked, polarity := .a, mc := 0, wc := 0, window := none, repIndex := 1,
          n1 := 0, acc := 0, warnings := { imbalance := false, cached := false, ratioSat := false } }
      arb := { holder := none, lastGrant := .scan, scanReq := none, spotReq := none }
      spot := { state := .none, request := request, window := none, latch := none }
      channels := Vector.replicate 16 channel
      references := Vector.replicate 4 reference
      cache := { slots := [], maxAge := 4 }
      list := { bankA := bank, bankB := bank, active := .a, pendingFlag := false }
      ctl :=
        { state := .idle, mode := .single, entryIndex := 0, seq := 0#16, remaining := 0, stopRequested := false,
          pendingTrigger := false, skipTally := 0, measured := 0, faults := 0, discarded := 0, snapshot := control,
          grantOutstanding := false, held := none, scanCtrl := control, scanCount := 0#16 }
      fifo := { records := [], reserved := false, latch := none, consumed := true, threshold := 16 }
      limits := Vector.replicate 16 slot
      events := { records := [], latch := none, consumed := true }
      attn := { flags := 0#8, enables := 0#8 }
      time :=
        { source := .lf, windowMax := 0xFFFFFF#24, timerRunning := false, timerRemaining := 0, prescaler := 0,
          scanInterval := 1024#16, trigLevel := trigLevel }
      port :=
        { frame := .idle, pointer := 0#7, stagedCount := 0#8, stagedInterval := 0#8, stagedMaxLow := 0#8,
          stagedMaxMid := 0#8, snapRemaining := 0#16, snapSeq := 0#16, snapMc := 0#24, snapWc := 0#24,
          param := Vector.replicate 16 0#8, cmd := 0#8, cmdResult := .done, cmdDetail := 0#8, misoByte := 0#8 }
      pins := pins
      hostReceived := []
      pending := pending }
  (∀ s : State,
    exec .hardReset s = .next (values s.time.trigLevel { s.pins with rstLow := true } s.pending) ∧
    (s.pins.supplyGood = true →
      exec (.powerOnReset false) s = .next
        (values s.time.trigLevel { s.pins with supplyGood := false } s.pending))) ∧
  State.reset = values false { csLow := false, rstLow := false, supplyGood := true, trigHigh := false } []

/-- The part leaves hard reset when RST_N is high and the supply good, whichever comes last, and takes the level on
TRIG as the detector's own in that step (R180, R194, R195). -/
def Obligations.ReleaseTakesTheTrigLevel : Prop :=
  ∀ s : State,
    (s.pins.rstLow = true → s.pins.supplyGood = true →
      exec .resetRelease s = .next
        { s with pins := { s.pins with rstLow := false }, time := { s.time with trigLevel := s.pins.trigHigh } }) ∧
    (s.pins.rstLow = true → s.pins.supplyGood = false →
      exec .resetRelease s = .next { s with pins := { s.pins with rstLow := false } }) ∧
    (s.pins.rstLow = false → s.pins.supplyGood = false →
      exec (.powerOnReset true) s = .next
        { s with pins := { s.pins with supplyGood := true }, time := { s.time with trigLevel := s.pins.trigHigh } }) ∧
    (s.pins.rstLow = true → s.pins.supplyGood = false →
      exec (.powerOnReset true) s = .next { s with pins := { s.pins with supplyGood := true } })

/-- RESET_ENGINE, in every state: every block takes its RESET_ENGINE values in one step, the configuration stays, and
the command completes with DONE (R193). The request and the snapshots of the unit take the values of log 8. -/
def Obligations.ResetEngineReachesEveryBlock : Prop :=
  ∀ s : State, WritingAt 0x00#7 s →
    ∃ t : State, exec .resetEngine s = .next (t.answered 0x0F#8 .done 0) ∧
      (∀ i : Fin 16, t.limits[i] = { s.limits[i] with state := none, pendingDir := none, pendingCount := 0 }) ∧
      t = { s with
        conv := State.reset.conv
        arb := { holder := none, lastGrant := .scan, scanReq := none, spotReq := none }
        spot := { state := .none, window := none, latch := none,
                  request := { channel := 0, reference := 0, target := 0, repeatCode := 0, fresh := false } }
        cache := { s.cache with slots := [] }
        list := s.list.claimSwap
        ctl := { s.ctl with
          state := .idle, mode := .single, entryIndex := 0, remaining := 0, stopRequested := false,
          pendingTrigger := false, skipTally := 0, measured := 0, faults := 0, discarded := 0,
          grantOutstanding := false, held := none }
        fifo := { s.fifo with records := [], reserved := false, latch := none, consumed := true }
        limits := t.limits
        events := { records := [], latch := none, consumed := true }
        attn := { s.attn with flags := 0 }
        time := { s.time with timerRunning := false, timerRemaining := 0, prescaler := 0 } }

/-- The part right after a hard reset keeps every law that the invariants below carry through every step. The state
itself holds choices of the model: the pins (log 7), and the snapshots of the unit, whose min count of 1 the law of the
registers reads (log 8). -/
def Obligations.LawsHoldAtReset : Prop :=
  HolderMatchesUnit State.reset ∧ OscillatorFollowsPhase State.reset ∧ ReservationLaw State.reset ∧
  CacheLaw State.reset ∧ SlotLaw State.reset ∧ NoCommitWaitsInIdle State.reset ∧ EventQueueLaw State.reset ∧
  ResultLatchLaw State.reset ∧ ControllerLaw State.reset ∧ TallyLaw State.reset ∧ TimerLaw State.reset ∧
  RegisterLaw State.reset ∧ CounterLaw State.reset ∧ NoRequestWaitsForAFreeUnit State.reset ∧
  SpotLaw State.reset ∧ ScanRequestLaw State.reset ∧ ListLaw State.reset ∧ FrameLaw State.reset

/-! ### Frames and reads -/

/-- FRAME_START, ADDRESS_BYTE and FRAME_END (R182, R194), and what MISO does (R184): 0 from the frame's start, in the
address byte and in the data bytes of a write frame, the byte read in those of a read frame, high-impedance after the
frame and in a reset. FRAME_END is stated here with no further data byte; PlainReadsChangeNothing takes the bytes one by
one. A second fall or rise of CS_N, and an address byte outside ADDRESS, change nothing (log 3); `hostReceived` is the
model's own (log 6). -/
def Obligations.FramesOpenAndClose : Prop :=
  ∀ s : State,
    (s.pins.csLow = false → Released s →
      let t := { s with pins := { s.pins with csLow := true }, hostReceived := [],
                        port := { s.port with frame := .address, stagedCount := 0, stagedInterval := 0,
                                              stagedMaxLow := 0, stagedMaxMid := 0, misoByte := 0 } }
      exec .frameStart s = .next t ∧ t.miso = some 0#8) ∧
    (s.pins.csLow = false → ¬Released s →
      exec .frameStart s = .next { s with pins := { s.pins with csLow := true } }) ∧
    (s.pins.csLow = true → exec .frameStart s = .next s) ∧
    (∀ b : Byte, s.port.frame = .address →
      let t := { s with port := { s.port with frame := if 128 ≤ b.toNat then .read else .write,
                                              pointer := BitVec.ofNat 7 (b.toNat % 128) } }
      exec (.addressByte b) s = .next t ∧ (b.toNat < 128 → t.miso = some 0#8)) ∧
    (∀ b : Byte, s.port.frame ≠ .address → exec (.addressByte b) s = .next s) ∧
    (∀ n : Nat, s.pins.csLow = true → n = 0 ∨ s.port.frame ≠ .read →
      let t := { s with pins := { s.pins with csLow := false }, port := { s.port with frame := .idle } }
      exec (.frameEnd n) s = .next t ∧ t.miso = none) ∧
    (∀ n : Nat, s.pins.csLow = false → exec (.frameEnd n) s = .next s) ∧
    (s.port.frame = .write → s.written.miso = some 0#8) ∧
    (∀ v : Byte, s.port.frame = .read → (s.read v).miso = some v) ∧
    (∀ t : State, exec .hardReset s = .next t → t.miso = none)

/-- Reads, one data byte at a time (R183, R185). At an address whose read has no effect the host has the value, the
pointer moves on, and nothing else changes: REGISTER_WRITE as a read. The values are those of 10.5 (R129, R162, R172,
R185 to R187, R189 to R192); those of 0x03 to 0x05 are in StatusRegistersShowTheirFields, the bytes of the latched
records in ResultWindowLatchesAndPops and OtherWindowsLatch. FRAME_END with one byte more, and a row that reads a later
address, take the byte at the pointer, with every effect that its own row has, and then go on. That REGISTER_WRITE reads,
and that FRAME_END brings bytes along, is log 6; that a read row reads on to its address is log 5. -/
def Obligations.PlainReadsChangeNothing : Prop :=
  (∀ (s : State) (a : Addr), ReadingAt a s → a ∉ ownReadRows →
    exec (.registerWrite a .read) s = .next (s.read (readValue s a))) ∧
  (∀ s : State,
    let result : Byte := match s.port.cmdResult with
      | .done => 0 | .refusedState => 1 | .badArg => 2 | .listPending => 3 | .emptyList => 4 | .noRoom => 5 | .busy => 6
      | .unknownCommand => 7
    let control : Byte := BitVec.ofNat 8
      (s.ctl.scanCtrl.discard.toNat + 2 * s.ctl.scanCtrl.faultStop.toNat + 4 * s.ctl.scanCtrl.falling.toNat)
    (∀ p ∈ [(0x00#7, s.port.cmd), (0x01#7, result), (0x02#7, s.port.cmdDetail), (0x06#7, control),
        (0x07#7, BitVec.ofNat 8 s.fifo.threshold),
        (0x08#7, s.ctl.scanCount.extractLsb' 0 8), (0x09#7, s.ctl.scanCount.extractLsb' 8 8),
        (0x0A#7, s.time.scanInterval.extractLsb' 0 8), (0x0B#7, s.time.scanInterval.extractLsb' 8 8),
        (0x0D#7, s.port.snapRemaining.extractLsb' 8 8), (0x0F#7, s.port.snapSeq.extractLsb' 8 8),
        (0x10#7, BitVec.ofNat 8 s.fifo.records.length), (0x11#7, BitVec.ofNat 8 s.events.records.length),
        (0x12#7, s.attn.flags), (0x13#7, s.attn.enables), (0x14#7, BitVec.ofNat 8 s.cache.maxAge),
        (0x15#7, if s.time.source = .hf then 1#8 else 0#8),
        (0x16#7, s.time.windowMax.extractLsb' 0 8), (0x17#7, s.time.windowMax.extractLsb' 8 8),
        (0x18#7, s.time.windowMax.extractLsb' 16 8), (0x19#7, BitVec.ofNat 8 s.ctl.skipTally),
        (0x1B#7, s.port.snapMc.extractLsb' 8 8), (0x1C#7, s.port.snapMc.extractLsb' 16 8),
        (0x1E#7, s.port.snapWc.extractLsb' 8 8), (0x1F#7, s.port.snapWc.extractLsb' 16 8)],
      readValue s p.1 = p.2) ∧
    (∀ i : Fin 16,
      readValue s (0x20#7 + BitVec.ofNat 7 i) = s.port.param[i] ∧
      readValue s (0x30#7 + BitVec.ofNat 7 i) = (resultBytes s.fifo.latch)[i] ∧
      readValue s (0x50#7 + BitVec.ofNat 7 i) = (spotBytes s.spot.latch)[i]) ∧
    (∀ i : Fin 8, readValue s (0x40#7 + BitVec.ofNat 7 i) = (eventBytes s.events.latch)[i]) ∧
    (∀ a : Addr, 0x48#7 ≤ a ∧ a ≤ 0x4F#7 ∨ 0x60#7 ≤ a → readValue s a = 0#8)) ∧
  (∀ (s : State) (a : Addr), ReadingAt a s →
    let rows : List (Addr × Instr) :=
      [(0x30#7, .resultByte0Read), (0x3F#7, .resultByte15Read), (0x40#7, .eventByte0Read), (0x47#7, .eventByte7Read),
       (0x50#7, .spotByte0Read), (0x0C#7, .snapshotLowByteRead .scansRemaining),
       (0x0E#7, .snapshotLowByteRead .scanSeq), (0x1A#7, .snapshotLowByteRead .liveMc),
       (0x1D#7, .snapshotLowByteRead .liveWc)]
    ∃ u, exec (.registerWrite a .read) s = .next u ∧ u.port.frame = .read ∧ u.port.pointer = a + 1 ∧
      (∀ n : Nat, s.pins.csLow = true → exec (.frameEnd (n + 1)) s = exec (.frameEnd n) u) ∧
      (∀ p ∈ rows, (p.1 = a → exec p.2 s = .next u) ∧ (p.1 ≠ a → exec p.2 s = exec p.2 u)) ∧
      ∀ b : Addr, b ≠ a → exec (.registerWrite b .read) s = exec (.registerWrite b .read) u)

/-- ENGINE_STATE, ENGINE_ENTRY and CONV_STATE show their fields as they stand (R188), and a write of them is
ignored. -/
def Obligations.StatusRegistersShowTheirFields : Prop :=
  ∀ s : State,
    (let v := readValue s 0x03#7
     v.extractLsb' 0 2 = (match s.ctl.state with
       | .idle => 0#2 | .armed => 1#2 | .scanning => 2#2 | .holdStart => 3#2 | .holdRecord => 3#2) ∧
     v.getLsbD 2 = decide (s.ctl.state = .holdRecord) ∧
     v.extractLsb' 3 2 = (match s.ctl.mode with | .single => 0#2 | .timed => 1#2 | .triggered => 2#2) ∧
     v.getLsbD 5 = s.ctl.stopRequested ∧ v.getLsbD 6 = s.ctl.pendingTrigger ∧
     v.getLsbD 7 = s.ctl.grantOutstanding) ∧
    (let v := readValue s 0x04#7
     (v.extractLsb' 0 5).toNat = s.ctl.entryIndex.val ∧ v.getLsbD 5 = decide (s.list.active = .b) ∧
     v.getLsbD 6 = s.list.pendingFlag ∧ v.getLsbD 7 = false) ∧
    (let v := readValue s 0x05#7
     v.extractLsb' 0 3 = (match s.conv.phase with
       | .idle => 0#3 | .refSettle => 1#3 | .refCount _ => 2#3 | .snsSettle => 3#3 | .snsCount => 4#3
       | .snsCountB => 5#3) ∧
     v.extractLsb' 3 2 = (match s.arb.holder with | none => 0#2 | some .scan => 1#2 | some .spot => 2#2) ∧
     v.extractLsb' 5 2 = (match s.spot.state with | .none => 0#2 | .waiting => 1#2 | .running => 2#2) ∧
     v.getLsbD 7 = false) ∧
    ∀ a ∈ [0x03#7, 0x04#7, 0x05#7], ∀ v : Byte, WritingAt a s → exec (.registerWrite a (.write v)) s = .next s.written

/-- RESULT bytes 0 and 15 (R122, R124, R126), and the bytes of the records that the RESULT and SPOT windows show (R19,
R115 to R117). In a hold the room report that follows the pop is the row HELD_START_RETRY or HELD_RECORD_REOFFER. -/
def Obligations.ResultWindowLatchesAndPops : Prop :=
  (∀ r : MeasRecord,
    let status : Nat := match r.status with
      | .ok => 0 | .refTimeout => 1 | .windowShort => 2 | .sensorOverrange => 3 | .sensorUnderrange => 4
      | .channelDisabled => 5 | .cancelled => 6
    let layout (kind : Nat) : List Nat :=
      [kind + 4 * status + 32 * r.ratioValid.toNat + 64 * r.warnings.cached.toNat + 128 * r.warnings.imbalance.toNat,
       r.entryIndex.val + 32 * r.repeatCode.val, r.tag.toNat,
       r.channel.val + 16 * r.reference.val + 64 * r.warnings.ratioSat.toNat,
       r.seq.toNat % 256, r.seq.toNat / 256,
       r.window % 256, r.window / 256 % 256, r.window / 65536 % 256,
       r.count % 256, r.count / 256 % 256, r.count / 65536 % 256, r.count / 16777216 % 256,
       r.ratio % 256, r.ratio / 256 % 256, r.ratio / 65536 % 256]
    (resultBytes (some (.measurement r))).toList.map BitVec.toNat = layout 1 ∧
    (spotBytes (some r)).toList.map BitVec.toNat = layout 3) ∧
  (∀ e : ScanEndRecord,
    let termination : Nat := match e.termination with | .complete => 0 | .faulted => 1 | .aborted => 2
    (resultBytes (some (.scanEnd e))).toList.map BitVec.toNat =
      [2 + 4 * termination, e.measured % 256, e.faults % 256, e.discarded % 256, e.seq.toNat % 256, e.seq.toNat / 256,
       e.skipped % 256, 0, 0, 0, 0, 0, 0, 0, 0, 0]) ∧
  (∀ i : Fin 16, (resultBytes none)[i] = 0#8 ∧ (spotBytes none)[i] = 0#8) ∧
  ∀ s : State,
    (ReadingAt 0x30#7 s →
      exec .resultByte0Read s = .next
        ({ s with fifo := { s.fifo with latch := s.fifo.records.head?, consumed := s.fifo.records.isEmpty } }.read
          (resultBytes s.fifo.records.head?)[0])) ∧
    (ReadingAt 0x3F#7 s → s.fifo.consumed = true →
      exec .resultByte15Read s = .next (s.read (resultBytes s.fifo.latch)[15])) ∧
    (ReadingAt 0x3F#7 s → s.fifo.consumed = false →
      let popped := { s with fifo := { s.fifo with records := s.fifo.records.tail, consumed := true } }.read
        (resultBytes s.fifo.latch)[15]
      (s.ctl.state = .idle ∨ s.ctl.state = .armed ∨ s.ctl.state = .scanning →
        exec .resultByte15Read s = .next popped) ∧
      (s.ctl.state = .holdStart → ReservationLaw s → s.fifo.records ≠ [] →
        ∃ u, exec .heldStartRetry popped = .next u ∧ exec .resultByte15Read s = .next u) ∧
      (s.ctl.state = .holdRecord →
        ∃ u, exec .heldRecordReoffer popped = .next u ∧ exec .resultByte15Read s = .next u))

/-- EVENT bytes 0 and 7 (R159, R161), the bytes of an event record (R134, R155, R156), SPOT byte 0, which latches the
spot window (R109), and the low byte of each snapshotted value, which takes its snapshot and returns the low byte of the
copy (R24, R187). -/
def Obligations.OtherWindowsLatch : Prop :=
  (∀ e : EventRecord,
    let kind : Nat := match e.kind with | .low => 1 | .high => 2 | .inBand => 3
    let previous : Nat := match e.previous with | none => 0 | some .inBand => 1 | some .low => 2 | some .high => 3
    (eventBytes (some e)).toList.map BitVec.toNat =
      [kind + 4 * previous + 16 * e.slot.val, e.entryIndex.val, e.tag.toNat, e.seq.toNat % 256, e.seq.toNat / 256,
       e.ratio % 256, e.ratio / 256 % 256, e.ratio / 65536 % 256]) ∧
  (∀ i : Fin 8, (eventBytes none)[i] = 0#8) ∧
  ∀ s : State,
    (ReadingAt 0x40#7 s →
      exec .eventByte0Read s = .next
        ({ s with events := { s.events with
             latch := s.events.records.head?, consumed := s.events.records.isEmpty } }.read
          (eventBytes s.events.records.head?)[0])) ∧
    (ReadingAt 0x47#7 s → s.events.consumed = true →
      exec .eventByte7Read s = .next (s.read (eventBytes s.events.latch)[7])) ∧
    (ReadingAt 0x47#7 s → s.events.consumed = false →
      exec .eventByte7Read s = .next
        ({ s with events := { s.events with records := s.events.records.tail, consumed := true } }.read
          (eventBytes s.events.latch)[7])) ∧
    (ReadingAt 0x50#7 s →
      exec .spotByte0Read s = .next
        ({ s with spot := { s.spot with latch := s.spot.window } }.read (spotBytes s.spot.window)[0])) ∧
    (ReadingAt 0x0C#7 s →
      exec (.snapshotLowByteRead .scansRemaining) s = .next
        ({ s with port := { s.port with snapRemaining := BitVec.ofNat 16 s.ctl.remaining } }.read
          (BitVec.ofNat 8 s.ctl.remaining))) ∧
    (ReadingAt 0x0E#7 s →
      exec (.snapshotLowByteRead .scanSeq) s = .next
        ({ s with port := { s.port with snapSeq := s.ctl.seq } }.read (s.ctl.seq.setWidth 8))) ∧
    (ReadingAt 0x1A#7 s →
      exec (.snapshotLowByteRead .liveMc) s = .next
        ({ s with port := { s.port with snapMc := BitVec.ofNat 24 s.conv.mc } }.read (BitVec.ofNat 8 s.conv.mc))) ∧
    (ReadingAt 0x1D#7 s →
      exec (.snapshotLowByteRead .liveWc) s = .next
        ({ s with port := { s.port with snapWc := BitVec.ofNat 24 s.conv.wc } }.read (BitVec.ofNat 8 s.conv.wc)))

/-! ### Scan control -/

/-- START_SINGLE, accepted: the run is begun and its one scan started with the command, whatever its first entry (R70,
R71, R74, R76, R78, R99). -/
def Obligations.StartSingleStartsItsScan : Prop :=
  ∀ s : State, WritingAt 0x00#7 s → s.ctl.state = .idle → s.list.activeBank.length ≠ 0 →
    s.fifo.records.length < 32 →
    ∃ u, exec .grant (s.runBegun .single 1).scanStarted = .next u ∧
      exec .startSingle s = .next (u.answered 0x01#8 .done 1) ∧ u.ctl.mode = .single ∧ u.ctl.seq = s.ctl.seq + 1

/-- START_TIMED, accepted: the timer runs from the command, and the first scan starts, whatever its first entry, is held
or is skipped (R70, R72, R74, R75, R76, R78, R175). -/
def Obligations.StartTimedStartsTimerAndScan : Prop :=
  ∀ s : State, WritingAt 0x00#7 s → s.ctl.state = .idle → s.list.activeBank.length ≠ 0 →
    let b := { s.runBegun .timed s.ctl.scanCount.toNat with
      time := { s.time with timerRunning := true, prescaler := 0, timerRemaining := s.time.scanInterval.toNat } }
    (s.fifo.records.length < 32 →
      ∃ u, exec .grant b.scanStarted = .next u ∧ exec .startTimed s = .next (u.answered 0x02#8 .done 1)) ∧
    (¬s.fifo.records.length < 32 → s.ctl.scanCtrl.discard = false →
      exec .startTimed s = .next (b.startHeld.answered 0x02#8 .done 0)) ∧
    (¬s.fifo.records.length < 32 → s.ctl.scanCtrl.discard = true →
      exec .startTimed s = .next (b.startSkipped.answered 0x02#8 .done 0))

/-- The start commands' refusals, in their order (R70). -/
def Obligations.StartCommandsRefuse : Prop :=
  ∀ s : State, WritingAt 0x00#7 s →
    ∀ p ∈ [(Instr.startSingle, 0x01#8), (.startTimed, 0x02#8), (.armTrigger, 0x03#8)],
      (s.ctl.state ≠ .idle → exec p.1 s = .next (s.answered p.2 .refusedState 0)) ∧
      (s.ctl.state = .idle → s.list.activeBank.length = 0 →
        exec p.1 s = .next (s.answered p.2 .emptyList 0)) ∧
      (s.ctl.state = .idle → s.list.activeBank.length ≠ 0 → s.fifo.records.length = 32 → p.1 = .startSingle →
        exec p.1 s = .next (s.answered p.2 .noRoom 32))

/-- ARM_TRIGGER, accepted (R70, R73). -/
def Obligations.ArmTriggerArms : Prop :=
  ∀ s : State, WritingAt 0x00#7 s → s.ctl.state = .idle → s.list.activeBank.length ≠ 0 →
    exec .armTrigger s = .next
      ({ s with ctl := { s.ctl with
          state := .armed, mode := .triggered, remaining := s.ctl.scanCount.toNat,
          snapshot := s.ctl.scanCtrl } }.answered 0x03#8 .done 0)

/-- STOP in each state (R93). That the unit keeps what it holds is log 9. -/
def Obligations.StopActsByState : Prop :=
  ∀ s : State, WritingAt 0x00#7 s →
    (s.ctl.state = .idle → exec .stop s = .next (s.answered 0x04#8 .done 0)) ∧
    (s.ctl.state = .armed ∨ s.ctl.state = .holdStart →
      exec .stop s = .next (s.atRest.answered 0x04#8 .done 0)) ∧
    (s.ctl.state = .scanning ∨ s.ctl.state = .holdRecord →
      exec .stop s = .next
        ({ s with ctl := { s.ctl with stopRequested := true } }.answered 0x04#8 .done 1))

/-- ABORT in each state (R94, R95, R196): a scan in progress is cut off, closed with its ABORTED record, and the entry
index stays. That the stopped unit keeps W, N1, S and the rest in IDLE is log 9. -/
def Obligations.AbortActsByState : Prop :=
  ∀ s : State, WritingAt 0x00#7 s →
    (s.ctl.state = .idle → exec .abort s = .next (s.answered 0x05#8 .done 0)) ∧
    (s.ctl.state = .armed ∨ s.ctl.state = .holdStart →
      exec .abort s = .next (s.atRest.answered 0x05#8 .done 0)) ∧
    (s.ctl.state = .scanning ∨ s.ctl.state = .holdRecord →
      let w := { s with ctl := { s.ctl with grantOutstanding := false, held := none },
                        arb := { s.arb with scanReq := none } }
      let cut := if s.conv.owner = some .scan then w.unitReleased else w
      ∃ u, exec .grant (cut.scanClosed .aborted).atRest = .next u ∧
        exec .abort s = .next (u.answered 0x05#8 .done 1))

/-! ### Scan list, tables, cache -/

/-- SET_LENGTH and WRITE_ENTRY (R54, R55): refused while a commit is pending, checked in order, written to the edit
bank alone. -/
def Obligations.ListEditsReachTheEditBank : Prop :=
  ∀ s : State, WritingAt 0x00#7 s →
    (s.list.pendingFlag = true →
      exec .setLength s = .next (s.answered 0x10#8 .listPending 0) ∧
      exec .writeEntry s = .next (s.answered 0x11#8 .listPending 0)) ∧
    (s.list.pendingFlag = false →
      (32 < (s.p 0).toNat → exec .setLength s = .next (s.answered 0x10#8 .badArg 1)) ∧
      (∀ n : Fin 33, n.val = (s.p 0).toNat →
        exec .setLength s = .next
          ({ s with list := s.list.withEditBank { s.list.editBank with length := n } }.answered
            0x10#8 .done (s.p 0))) ∧
      (∀ d, firstBad [(s.p 0).toNat < 32, (s.p 1).toNat < 16, (s.p 2).toNat < 4, (s.p 3).toNat < 13,
            (s.p 4).toNat < 4, (s.p 5).toNat ≤ 1, (s.p 6).toNat < 16 ∨ s.p 6 = 255] = some d →
        exec .writeEntry s = .next (s.answered 0x11#8 .badArg (BitVec.ofNat 8 d))) ∧
      (∀ (i : Fin 32) (e : Entry), i.val = (s.p 0).toNat → e.channel.val = (s.p 1).toNat →
        e.reference.val = (s.p 2).toNat → e.target.val = (s.p 3).toNat → e.repeatCode.val = (s.p 4).toNat →
        e.fresh.toNat = (s.p 5).toNat → (e.slot.map Fin.val).getD 255 = (s.p 6).toNat → e.tag = s.p 7 →
        exec .writeEntry s = .next
          ({ s with
            list := s.list.withEditBank
              { s.list.editBank with entries := s.list.editBank.entries.set i e } }.answered
            0x11#8 .done (s.p 0))))

/-- COMMIT (R59) and the swap (R61): the pointer flips, both banks then hold the committed program, and the flag
clears. -/
def Obligations.CommitAndSwap : Prop :=
  (∀ s : State, WritingAt 0x00#7 s →
    (s.list.editBank.length = 0 → exec .commit s = .next (s.answered 0x13#8 .emptyList 0)) ∧
    (s.list.editBank.length ≠ 0 → s.list.pendingFlag = true →
      exec .commit s = .next (s.answered 0x13#8 .listPending 0)) ∧
    (s.list.editBank.length ≠ 0 → s.list.pendingFlag = false →
      let marked := { s with list := { s.list with pendingFlag := true } }
      (s.ctl.state = .idle →
        ∃ u, exec .swap marked = .next u ∧ exec .commit s = .next (u.answered 0x13#8 .done 1)) ∧
      (s.ctl.state ≠ .idle → exec .commit s = .next (marked.answered 0x13#8 .done 0)))) ∧
  (∀ s : State, s.ctl.state = .idle →
    (s.list.pendingFlag = false → exec .swap s = .next s) ∧
    (s.list.pendingFlag = true →
      ∃ l : ScanList, exec .swap s = .next { s with list := l } ∧ l.active ≠ s.list.active ∧
        l.bankA = s.list.editBank ∧ l.bankB = s.list.editBank ∧ l.pendingFlag = false))

/-- WRITE_CHANNEL (R29) and WRITE_REFERENCE (R33, R44). -/
def Obligations.TableWritesReplaceTheirRecord : Prop :=
  ∀ s : State, WritingAt 0x00#7 s →
    (∀ d, firstBad [(s.p 0).toNat < 16, (s.p 1).toNat ≤ 1, (s.p 2).toNat ≤ 1, true,
          (s.p 4).toNat + 256 * (s.p 5).toNat ≠ 0] = some d →
      exec .writeChannel s = .next (s.answered 0x20#8 .badArg (BitVec.ofNat 8 d))) ∧
    (∀ (i : Fin 16) (c : Channel), i.val = (s.p 0).toNat → c.enabled.toNat = (s.p 1).toNat →
      c.ac.toNat = (s.p 2).toNat → c.settle = s.p 3 → c.minCount.toNat = (s.p 4).toNat + 256 * (s.p 5).toNat →
      c.minCount ≠ 0 → c.imbalance = s.p 6 →
      exec .writeChannel s = .next ({ s with channels := s.channels.set i c }.answered 0x20#8 .done (s.p 0))) ∧
    (3 < (s.p 0).toNat → exec .writeReference s = .next (s.answered 0x22#8 .badArg 1)) ∧
    (∀ r : Fin 4, r.val = (s.p 0).toNat →
      let g := s.references[r].generation + 1
      exec .writeReference s = .next
        ({ s with references := s.references.set r { settle := s.p 1, generation := g },
                  cache := { s.cache with
                    slots := s.cache.slots.filter fun e => decide (e.reference ≠ r) } }.answered 0x22#8 .done g))

/-- The READ commands: an argument out of range leaves PARAM, and an accepted one replaces all sixteen bytes of PARAM,
written out here, and changes nothing else (R31, R35, R47, R57, R134, R139, R192). -/
def Obligations.ReadCommandsAnswerInParam : Prop :=
  ∀ s : State, WritingAt 0x00#7 s →
    let flag (b : Bool) : Byte := if b then 1#8 else 0#8
    (15 < (s.p 0).toNat → exec .readChannel s = .next (s.answered 0x21#8 .badArg 1)) ∧
    (∀ i : Fin 16, i.val = (s.p 0).toNat →
      let c := s.channels[i]
      exec .readChannel s = .next ((s.withParam
        #v[s.p 0, flag c.enabled, flag c.ac, c.settle, c.minCount.extractLsb' 0 8, c.minCount.extractLsb' 8 8,
           c.imbalance, 0, 0, 0, 0, 0, 0, 0, 0, 0]).answered 0x21#8 .done (s.p 0))) ∧
    (3 < (s.p 0).toNat → exec .readReference s = .next (s.answered 0x23#8 .badArg 1)) ∧
    (∀ r : Fin 4, r.val = (s.p 0).toNat →
      exec .readReference s = .next ((s.withParam
        #v[s.p 0, s.references[r].settle, s.references[r].generation,
           0, 0, 0, 0, 0, 0, 0, 0, 0, 0, 0, 0, 0]).answered 0x23#8 .done (s.p 0))) ∧
    (7 < (s.p 0).toNat → exec .readCache s = .next (s.answered 0x29#8 .badArg 1)) ∧
    (∀ (i : Fin 8) (e : CacheSlot), i.val = (s.p 0).toNat → s.cache.slots[i.val]? = some e →
      exec .readCache s = .next ((s.withParam
        #v[s.p 0, 1, BitVec.ofNat 8 e.reference, BitVec.ofNat 8 e.target, BitVec.ofNat 8 e.window,
           BitVec.ofNat 8 (e.window / 256), BitVec.ofNat 8 (e.window / 65536), BitVec.ofNat 8 e.age,
           0, 0, 0, 0, 0, 0, 0, 0]).answered 0x29#8 .done (s.p 0))) ∧
    (∀ i : Fin 8, i.val = (s.p 0).toNat → s.cache.slots[i.val]? = none →
      exec .readCache s = .next ((s.withParam
        #v[s.p 0, 0, 0, 0, 0, 0, 0, 0, 0, 0, 0, 0, 0, 0, 0, 0]).answered 0x29#8 .done (s.p 0))) ∧
    (1 < (s.p 8).toNat → exec .readEntry s = .next (s.answered 0x12#8 .badArg 1)) ∧
    ((s.p 8).toNat ≤ 1 → 31 < (s.p 0).toNat → exec .readEntry s = .next (s.answered 0x12#8 .badArg 2)) ∧
    (∀ (edit : Bool) (i : Fin 32), edit.toNat = (s.p 8).toNat → i.val = (s.p 0).toNat →
      let b := if edit then s.list.editBank else s.list.activeBank
      let e := b.entries[i]
      let slot : Byte := match e.slot with | none => 255#8 | some l => BitVec.ofNat 8 l
      exec .readEntry s = .next ((s.withParam
        #v[s.p 0, BitVec.ofNat 8 e.channel, BitVec.ofNat 8 e.reference, BitVec.ofNat 8 e.target,
           BitVec.ofNat 8 e.repeatCode, flag e.fresh, slot, e.tag, s.p 8, BitVec.ofNat 8 b.length,
           0, 0, 0, 0, 0, 0]).answered 0x12#8 .done (s.p 0))) ∧
    (15 < (s.p 0).toNat → exec .readSlot s = .next (s.answered 0x41#8 .badArg 1)) ∧
    (∀ i : Fin 16, i.val = (s.p 0).toNat →
      let l := s.limits[i]
      let state : Byte := match l.state with | none => 0 | some .inBand => 1 | some .low => 2 | some .high => 3
      let direction : Byte := match l.pendingDir with
        | none => 0 | some .low => 1 | some .high => 2 | some .inBand => 3
      exec .readSlot s = .next ((s.withParam
        #v[s.p 0, flag l.enabled, l.low.extractLsb' 0 8, l.low.extractLsb' 8 8, l.low.extractLsb' 16 8,
           l.high.extractLsb' 0 8, l.high.extractLsb' 8 8, l.high.extractLsb' 16 8, l.hysteresis.extractLsb' 0 8,
           l.hysteresis.extractLsb' 8 8, l.hysteresis.extractLsb' 16 8, BitVec.ofNat 8 l.persistence, state,
           direction, BitVec.ofNat 8 l.pendingCount, 0]).answered 0x41#8 .done (s.p 0)))

/-- PARAM after a READ command is a valid argument block for the WRITE command, with the same fields (R31, R35, R57,
R139): the bytes stand where the WRITE command takes them from. -/
def Obligations.ReadAnswersAreWriteArguments : Prop :=
  ∀ s : State,
    (∀ (i : Fin 16) (c : Channel), c.minCount ≠ 0 →
      parseWriteChannel (s.withParam (channelParam i c)) = .ok (i, c)) ∧
    (∀ (r : Fin 4) (x : Reference),
      parseWriteReference (s.withParam (referenceParam r x)) = .ok (r, x.settle) ∧
      (s.withParam (referenceParam r x)).p 2 = x.generation) ∧
    (∀ (edit : Bool) (i : Fin 32) (n : Fin 33) (e : Entry),
      parseWriteEntry (s.withParam (entryParam edit i n e)) = .ok (i, e) ∧
      ((s.withParam (entryParam edit i n e)).p 8).toNat = edit.toNat ∧
      ((s.withParam (entryParam edit i n e)).p 9).toNat = n.val) ∧
    (∀ (i : Fin 16) (l : LimitSlot), l.Law →
      parseWriteSlot (s.withParam (slotParam i l)) =
        .ok (i, { l with state := none, pendingDir := none, pendingCount := 0 }))

/-- PRELOAD_WINDOW stores under R40: the key's slot is renewed, or a place is filled, or the least recent slot is
evicted (R41). INVALIDATE_CACHE empties the cache (R45, R46). -/
def Obligations.CacheCommandsStoreAndInvalidate : Prop :=
  ∀ s : State, WritingAt 0x00#7 s →
    let w := (s.p 2).toNat + 256 * (s.p 3).toNat + 65536 * (s.p 4).toNat
    (∀ d, firstBad [(s.p 0).toNat < 4, (s.p 1).toNat < 13, 16 ≤ w ∧ w ≤ s.time.windowMax.toNat] = some d →
      exec .preloadWindow s = .next (s.answered 0x28#8 .badArg (BitVec.ofNat 8 d))) ∧
    (∀ (r : Fin 4) (k : Fin 13), r.val = (s.p 0).toNat → k.val = (s.p 1).toNat → 16 ≤ w →
      w ≤ s.time.windowMax.toNat → CacheLaw s →
      let others := s.otherKeys r k
      let kept := if others.length = 8 then others.take 7 else others
      exec .preloadWindow s = .next
        ({ s with cache := { s.cache with
            slots := { reference := r, target := k, window := w, age := 0 } :: kept } }.answered
          0x28#8 .done (BitVec.ofNat 8 (kept.length + 1)))) ∧
    exec .invalidateCache s = .next
      ({ s with cache := { s.cache with slots := [] } }.answered
        0x2A#8 .done (BitVec.ofNat 8 s.cache.slots.length))

/-! ### Spots, FIFO, limits -/

/-- SPOT (R104, R105): its refusals in order, and an accepted one, which runs at once where the unit is free and else
waits. -/
def Obligations.SpotIsRefusedOrRequested : Prop :=
  ∀ s : State, WritingAt 0x00#7 s →
    (s.spot.state = .waiting → exec .spot s = .next (s.answered 0x30#8 .busy 1)) ∧
    (s.spot.state = .running → exec .spot s = .next (s.answered 0x30#8 .busy 2)) ∧
    (s.spot.state = .none →
      (∀ d, firstBad [(s.p 0).toNat < 16, (s.p 1).toNat < 4, (s.p 2).toNat < 13, (s.p 3).toNat < 4,
            (s.p 4).toNat ≤ 1] = some d →
        exec .spot s = .next (s.answered 0x30#8 .badArg (BitVec.ofNat 8 d))) ∧
      (∀ q : Request, q.channel.val = (s.p 0).toNat → q.reference.val = (s.p 1).toNat →
        q.target.val = (s.p 2).toNat → q.repeatCode.val = (s.p 3).toNat → q.fresh.toNat = (s.p 4).toNat →
        let asked := { s with spot := { s.spot with request := q, state := .waiting },
                              arb := { s.arb with spotReq := some q } }
        (s.channels[q.channel].enabled = false → exec .spot s = .next (s.answered 0x30#8 .badArg 6)) ∧
        (s.channels[q.channel].enabled = true → s.arb.holder ≠ none →
          exec .spot s = .next (asked.answered 0x30#8 .done 0)) ∧
        (s.channels[q.channel].enabled = true → s.arb.holder = none → s.arb.scanReq = none →
          ∃ u, exec .grant asked = .next u ∧ u.spot.state = .running ∧
            exec .spot s = .next (u.answered 0x30#8 .done 1))))

/-- CANCEL_SPOT in each spot state (R107). A running spot is the unit's owner (SpotAndScanRequestsStandWhereTheySay).
That CACHED is the one warning kept is log 10, and that the unit keeps W, N1, S and the rest in IDLE is log 9. -/
def Obligations.CancelSpotActsByState : Prop :=
  ∀ s : State, WritingAt 0x00#7 s →
    (s.spot.state = .none → exec .cancelSpot s = .next (s.answered 0x31#8 .done 0)) ∧
    (s.spot.state = .waiting →
      ∃ u, exec .grant ({ s with arb := { s.arb with spotReq := none } }.spotEnded
          { status := .cancelled, warnings := { imbalance := false, cached := false, ratioSat := false },
            ratioValid := false, window := 0, count := 0, ratio := 0 }) = .next u ∧
        exec .cancelSpot s = .next (u.answered 0x31#8 .done 1)) ∧
    (s.spot.state = .running → s.conv.owner = some .spot →
      ∃ u, exec .grant (s.unitReleased.spotEnded
          { status := .cancelled,
            warnings := { imbalance := false, cached := s.conv.warnings.cached, ratioSat := false },
            ratioValid := false, window := s.conv.window.getD 0, count := 0, ratio := 0 }) = .next u ∧
        exec .cancelSpot s = .next (u.answered 0x31#8 .done 2))

/-- FLUSH_FIFO (R126, R127): the list and the latch are emptied, the reservation and the threshold kept, and the room
report acts in the holds as the rows HELD_START_RETRY and HELD_RECORD_REOFFER do. -/
def Obligations.FlushEmptiesTheFifo : Prop :=
  ∀ s : State, WritingAt 0x00#7 s →
    let flushed := { s with fifo := { s.fifo with records := [], latch := none, consumed := true } }
    let n : Byte := BitVec.ofNat 8 s.fifo.records.length
    (s.ctl.state = .idle ∨ s.ctl.state = .armed ∨ s.ctl.state = .scanning →
      exec .flushFifo s = .next (flushed.answered 0x38#8 .done n)) ∧
    (s.ctl.state = .holdStart →
      ∃ u, exec .heldStartRetry flushed = .next u ∧ exec .flushFifo s = .next (u.answered 0x38#8 .done n)) ∧
    (s.ctl.state = .holdRecord →
      ∃ u, exec .heldRecordReoffer flushed = .next u ∧ exec .flushFifo s = .next (u.answered 0x38#8 .done n))

/-- WRITE_SLOT (R137, R138). -/
def Obligations.WriteSlotReplacesTheSlot : Prop :=
  ∀ s : State, WritingAt 0x00#7 s →
    let low := (s.p 2).toNat + 256 * (s.p 3).toNat + 65536 * (s.p 4).toNat
    let high := (s.p 5).toNat + 256 * (s.p 6).toNat + 65536 * (s.p 7).toNat
    let hysteresis := (s.p 8).toNat + 256 * (s.p 9).toNat + 65536 * (s.p 10).toNat
    (∀ d, firstBad [(s.p 0).toNat < 16, (s.p 1).toNat ≤ 1, true, true, true,
          1 ≤ (s.p 11).toNat ∧ (s.p 11).toNat ≤ 15, low ≤ high] = some d →
      exec .writeSlot s = .next (s.answered 0x40#8 .badArg (BitVec.ofNat 8 d))) ∧
    (∀ (i : Fin 16) (enabled : Bool), i.val = (s.p 0).toNat → enabled.toNat = (s.p 1).toNat →
      1 ≤ (s.p 11).toNat → (s.p 11).toNat ≤ 15 → low ≤ high →
      exec .writeSlot s = .next
        ({ s with
          limits := s.limits.set i
            { enabled := enabled, low := BitVec.ofNat 24 low, high := BitVec.ofNat 24 high,
              hysteresis := BitVec.ofNat 24 hysteresis, persistence := (s.p 11).toNat,
              state := none, pendingDir := none, pendingCount := 0 } }.answered 0x40#8 .done (s.p 0)))

/-- The candidate a ratio points to, from each state of the slot (R142, R143). -/
def Obligations.CandidateFollowsTheState : Prop :=
  ∀ (l : LimitSlot) (x : Nat),
    let bL := min (l.low.toNat + l.hysteresis.toNat) 16777215
    let bH := l.high.toNat - l.hysteresis.toNat
    (l.state = none ∨ l.state = some .inBand →
      (x < l.low.toNat → l.candidate x = .low) ∧
      (l.low.toNat ≤ x → l.high.toNat < x → l.candidate x = .high) ∧
      (l.low.toNat ≤ x → x ≤ l.high.toNat → l.candidate x = .inBand)) ∧
    (l.state = some .low →
      (l.high.toNat < x → l.candidate x = .high) ∧
      (bL ≤ x → x ≤ l.high.toNat → l.candidate x = .inBand) ∧
      (x < bL → x ≤ l.high.toNat → l.candidate x = .low) ∧
      (l.high.toNat < bL → l.candidate x ≠ .inBand)) ∧
    (l.state = some .high →
      (x < l.low.toNat → l.candidate x = .low) ∧
      (l.low.toNat ≤ x → x ≤ bH → l.candidate x = .inBand) ∧
      (l.low.toNat ≤ x → bH < x → l.candidate x = .high) ∧
      (bH < l.low.toNat → l.candidate x ≠ .inBand))

/-- One evaluation (R144, R145): the slot after it, and the band an event names where the slot changed state. -/
def Obligations.EvaluationCountsTowardPersistence : Prop :=
  ∀ (l : LimitSlot) (x : Nat),
    let c := l.candidate x
    let n := if l.pendingDir = some c then l.pendingCount + 1 else 1
    (l.state = some c → l.evaluate x = ({ l with pendingDir := none, pendingCount := 0 }, none)) ∧
    (l.state = none → c = .inBand →
      l.evaluate x = ({ l with state := some .inBand, pendingDir := none, pendingCount := 0 }, none)) ∧
    (l.state ≠ some c → ¬(l.state = none ∧ c = .inBand) →
      (n < l.persistence → l.evaluate x = ({ l with pendingDir := some c, pendingCount := n }, none)) ∧
      (l.persistence ≤ n →
        l.evaluate x = ({ l with state := some c, pendingDir := none, pendingCount := 0 }, some c)))

/-- The first two steps of handling a record (R81, R140, R146, R157, R164): the offer of an OK record to the slot its
entry names, with the event a change of state hands to the queue, and the ENTRY_FAULT cause of a fault. -/
def Obligations.RecordIsOfferedToItsSlot : Prop :=
  ∀ (r : MeasRecord) (s : State),
    let slot := s.list.activeBank.entries[s.ctl.entryIndex].slot
    (r.status ≠ .ok → offerAndFlag r s =
      if r.status.code.toNat ∈ [1, 2, 3, 4] then
        { s with attn := { s.attn with flags := s.attn.flags ||| 0x04#8 } }
      else s) ∧
    (r.status = .ok → slot = none → offerAndFlag r s = s) ∧
    (∀ i : Fin 16, r.status = .ok → slot = some i → s.limits[i].enabled = false → offerAndFlag r s = s) ∧
    (∀ (i : Fin 16) (l : LimitSlot), r.status = .ok → slot = some i → s.limits[i].enabled = true →
      s.limits[i].evaluate r.ratio = (l, none) → offerAndFlag r s = { s with limits := s.limits.set i l }) ∧
    (∀ (i : Fin 16) (l : LimitSlot) (b : Band), r.status = .ok → slot = some i → s.limits[i].enabled = true →
      s.limits[i].evaluate r.ratio = (l, some b) → offerAndFlag r s =
        if s.events.records.length < 16 then
          { s with
            limits := s.limits.set i l
            events := { s.events with records := s.events.records ++
              [{ kind := b, slot := i, previous := s.limits[i].state, entryIndex := r.entryIndex, tag := r.tag,
                 seq := r.seq, ratio := r.ratio }] }
            attn := { s.attn with flags := s.attn.flags ||| 0x10#8 } }
        else
          { s with limits := s.limits.set i l, attn := { s.attn with flags := s.attn.flags ||| 0x20#8 } })

/-! ### Time base, register writes -/

/-- SET_CLOCK's checks in order, and an accepted one, which invalidates the cache (R45, R171). -/
def Obligations.SetClockSelectsTheSource : Prop :=
  ∀ s : State, WritingAt 0x00#7 s →
    (s.ctl.state ≠ .idle → exec .setClock s = .next (s.answered 0x48#8 .refusedState 1)) ∧
    (s.ctl.state = .idle → s.spot.state ≠ .none →
      exec .setClock s = .next (s.answered 0x48#8 .refusedState 2)) ∧
    (s.ctl.state = .idle → s.spot.state = .none → s.conv.phase ≠ .idle →
      exec .setClock s = .next (s.answered 0x48#8 .refusedState 3)) ∧
    (s.ctl.state = .idle → s.spot.state = .none → s.conv.phase = .idle →
      (1 < (s.p 0).toNat → exec .setClock s = .next (s.answered 0x48#8 .badArg 1)) ∧
      ((s.p 0).toNat ≤ 1 →
        exec .setClock s = .next
          ({ s with time := { s.time with source := if s.p 0 = 1 then .hf else .lf },
                    cache := { s.cache with slots := [] } }.answered 0x48#8 .done (s.p 0))))

/-- The staged registers (R69, R173, R177, R186): a less significant byte changes its staging byte and nothing else;
the most significant byte takes the register's value with the staging bytes as they stand. -/
def Obligations.StagedRegistersTakeEffectWhole : Prop :=
  ∀ (s : State) (v : Byte),
    (WritingAt 0x08#7 s →
      exec (.stagingByteWrite .scanCountLow v) s = .next
        { s with port := { s.port with stagedCount := v } }.written) ∧
    (WritingAt 0x0A#7 s →
      exec (.stagingByteWrite .scanIntervalLow v) s = .next
        { s with port := { s.port with stagedInterval := v } }.written) ∧
    (WritingAt 0x16#7 s →
      exec (.stagingByteWrite .windowMaxLow v) s = .next
        { s with port := { s.port with stagedMaxLow := v } }.written) ∧
    (WritingAt 0x17#7 s →
      exec (.stagingByteWrite .windowMaxMid v) s = .next
        { s with port := { s.port with stagedMaxMid := v } }.written) ∧
    (WritingAt 0x09#7 s →
      exec (.scanCountWrite v) s = .next
        { s with ctl := { s.ctl with
            scanCount := BitVec.ofNat 16 (256 * v.toNat + s.port.stagedCount.toNat) } }.written) ∧
    (WritingAt 0x0B#7 s →
      exec (.scanIntervalWrite v) s = .next
        { s with time := { s.time with
            scanInterval := BitVec.ofNat 16 (max 1 (256 * v.toNat + s.port.stagedInterval.toNat)) } }.written) ∧
    (WritingAt 0x18#7 s →
      exec (.windowMaxWrite v) s = .next
        { s with time := { s.time with
            windowMax := BitVec.ofNat 24 (max 16 (65536 * v.toNat + 256 * s.port.stagedMaxMid.toNat +
              s.port.stagedMaxLow.toNat)) } }.written)

/-- The one-byte registers (R39, R68, R130, R165, R167, R189). -/
def Obligations.OneByteRegistersTakeTheirByte : Prop :=
  ∀ (s : State) (v : Byte),
    (WritingAt 0x06#7 s →
      exec (.scanCtrlWrite v) s = .next
        { s with ctl := { s.ctl with
            scanCtrl := { discard := v.getLsbD 0, faultStop := v.getLsbD 1, falling := v.getLsbD 2 } } }.written) ∧
    (WritingAt 0x07#7 s →
      exec (.fifoThresholdWrite v) s = .next
        { s with fifo := { s.fifo with
            threshold := if v.toNat = 0 then 1 else if 32 < v.toNat then 32 else v.toNat } }.written) ∧
    (WritingAt 0x14#7 s →
      exec (.cacheMaxAgeWrite v) s = .next
        { s with cache := { s.cache with maxAge := if 15 < v.toNat then 15 else v.toNat } }.written) ∧
    (WritingAt 0x12#7 s →
      ∃ f : Byte, (∀ i : Nat, f.getLsbD i = (s.attn.flags.getLsbD i && !v.getLsbD i)) ∧
        exec (.attnFlagsWrite v) s = .next { s with attn := { s.attn with flags := f } }.written) ∧
    (WritingAt 0x13#7 s →
      exec (.attnEnableWrite v) s = .next { s with attn := { s.attn with enables := v } }.written)

/-- REGISTER_WRITE: a PARAM byte is replaced; a read-only address, or one that holds nothing, ignores the write (R185,
R192). UNKNOWN_COMMAND: a code that names no command has no effect but on CMD, CMD_RESULT and CMD_DETAIL (R190). -/
def Obligations.OtherWritesReachParamOrNothing : Prop :=
  ∀ (s : State) (v : Byte),
    (∀ i : Fin 16, WritingAt (0x20#7 + BitVec.ofNat 7 i) s →
      exec (.registerWrite (0x20#7 + BitVec.ofNat 7 i) (.write v)) s = .next
        { s with port := { s.port with param := s.port.param.set i v } }.written) ∧
    (∀ a : Addr, WritingAt a s → a ∉ ownWriteRows → ¬(0x20#7 ≤ a ∧ a ≤ 0x2F#7) →
      exec (.registerWrite a (.write v)) s = .next s.written) ∧
    (WritingAt 0x00#7 s →
      v.toNat ∉ [0x01, 0x02, 0x03, 0x04, 0x05, 0x0F, 0x10, 0x11, 0x12, 0x13, 0x20, 0x21, 0x22, 0x23, 0x28, 0x29,
                 0x2A, 0x30, 0x31, 0x38, 0x40, 0x41, 0x48] →
      exec (.unknownCommand v) s = .next (s.answered v .unknownCommand 0))

/-- INT_N is asserted exactly when a set flag is enabled; the resets release it (R168). -/
def Obligations.IntNFollowsFlagsAndEnables : Prop :=
  (∀ s : State, s.intNAsserted = true ↔
    ∃ i < 8, s.attn.flags.getLsbD i = true ∧ s.attn.enables.getLsbD i = true) ∧
  (∀ s t : State, exec .hardReset s = .next t → t.intNAsserted = false) ∧
  (∀ s t : State, WritingAt 0x00#7 s → exec .resetEngine s = .next t → t.intNAsserted = false)

/-- TRIG_EDGE (R90, R91, R179, R194): the detector takes the level; an edge of the snapshot's polarity is a trigger in
TRIGGERED mode and has no effect in another. That a level which is no change does nothing is log 3, and that the detector
keeps its level while reset is held is log 14. -/
def Obligations.TrigEdgeTriggers : Prop :=
  ∀ (s : State) (high : Bool),
    (s.pins.trigHigh = high → exec (.trigEdge high) s = .next s) ∧
    (s.pins.trigHigh ≠ high → ¬Released s →
      exec (.trigEdge high) s = .next { s with pins := { s.pins with trigHigh := high } }) ∧
    (s.pins.trigHigh ≠ high → Released s →
      let seen := { s with pins := { s.pins with trigHigh := high }, time := { s.time with trigLevel := high } }
      (s.ctl.mode = .triggered → s.ctl.snapshot.falling = !high →
        (s.ctl.state = .armed → s.fifo.records.length < 32 →
          ∃ u, exec .grant seen.scanStarted = .next u ∧ exec (.trigEdge high) s = .next u) ∧
        (s.ctl.state ≠ .armed ∨ 32 ≤ s.fifo.records.length →
          exec (.trigEdge high) s = .next seen.triggerTaken)) ∧
      (¬(s.ctl.mode = .triggered ∧ s.ctl.snapshot.falling = !high) → exec (.trigEdge high) s = .next seen))

/-- The scan timer (R90, R91, R174, R176): 32 LF periods to a unit; at the end of the last unit the timer reloads,
runs on, and delivers a trigger in TIMED mode. -/
def Obligations.ScanTimerCountsAndExpires : Prop :=
  ∀ s : State,
    (s.time.timerRunning = false → exec .lfPeriodBoundary s = .next s) ∧
    (s.time.timerRunning = true → s.time.prescaler + 1 < 32 →
      exec .lfPeriodBoundary s = .next { s with time := { s.time with prescaler := s.time.prescaler + 1 } }) ∧
    (s.time.timerRunning = true → 32 ≤ s.time.prescaler + 1 → 1 < s.time.timerRemaining →
      ∀ c ∈ [Instr.lfPeriodBoundary, .scanTimerUnit],
        exec c s = .next
          { s with time := { s.time with prescaler := 0, timerRemaining := s.time.timerRemaining - 1 } }) ∧
    (s.time.timerRunning = true → 32 ≤ s.time.prescaler + 1 → s.time.timerRemaining ≤ 1 →
      ∀ c ∈ [Instr.lfPeriodBoundary, .scanTimerUnit, .scanTimerExpiry],
        let reloaded := { s with time := { s.time with
          prescaler := 0, timerRemaining := s.time.scanInterval.toNat } }
        (s.ctl.mode = .timed →
          (s.ctl.state = .armed → s.fifo.records.length < 32 →
            ∃ u, exec .grant reloaded.scanStarted = .next u ∧ exec c s = .next u) ∧
          (s.ctl.state ≠ .armed ∨ 32 ≤ s.fifo.records.length → exec c s = .next reloaded.triggerTaken)) ∧
        (s.ctl.mode ≠ .timed → exec c s = .next reloaded))

/-! ### The arbiter and the measurement -/

/-- GRANT (R2, R5, R6, R7, R38, R98 to R100): no grant while the unit serves or nothing waits; else the requester of
the table is granted, the snapshots are taken, and the cache step leads to the reference or the sensor. -/
def Obligations.GrantChoosesAndBegins : Prop :=
  ∀ s : State,
    (s.arb.holder ≠ none → exec .grant s = .next s) ∧
    (s.arb.scanReq = none → s.arb.spotReq = none → exec .grant s = .next s) ∧
    (∀ (who : Requester) (q : Request), Chosen s who q → s.channels[q.channel].enabled = true →
      (q.fresh = true → exec .grant s = .next (s.granted who q).referenceBegun) ∧
      (q.fresh = false →
        (∀ e ∈ s.cache.slots, e.reference = q.reference → e.target = q.target → s.cache.maxAge ≤ e.age) →
        exec .grant s = .next (s.granted who q).referenceBegun) ∧
      (∀ e ∈ s.cache.slots, q.fresh = false → CacheLaw s → e.reference = q.reference → e.target = q.target →
        e.age < s.cache.maxAge →
        let g := s.granted who q
        exec .grant s = .next
          { g with conv := { g.conv with window := some e.window,
                                         warnings := { imbalance := false, cached := true, ratioSat := false } },
                   cache := { s.cache with slots := e :: s.otherKeys q.reference q.target } }.sensorBegun))

/-- GRANT for a channel disabled since the request (R3, R100): the unit is released at once, the owner takes
CHANNEL_DISABLED or CANCELLED, and the arbiter decides again. That the unit keeps the request and the snapshots in IDLE
is log 9. -/
def Obligations.GrantOfADisabledChannel : Prop :=
  ∀ (s : State) (q : Request), s.channels[q.channel].enabled = false →
    let r (status : Status) : Result :=
      { status := status, warnings := { imbalance := false, cached := false, ratioSat := false },
        ratioValid := false, window := 0, count := 0, ratio := 0 }
    (Chosen s .spot q →
      ∃ u, exec .grant ((s.granted .spot q).unitReleased.spotEnded (r .cancelled)) = .next u ∧
        exec .grant s = .next u) ∧
    (Chosen s .scan q → s.ctl.state = .scanning →
      let g := (s.granted .scan q).unitReleased
      ∃ u, exec .grant (g.recordOffered (g.measurement (r .channelDisabled))) = .next u ∧ exec .grant s = .next u)

/-- PERIOD_BOUNDARY and OSCILLATOR_EDGE in each phase (R6, R7, R8, R12, R13, R170): they count, are ignored, or are
the boundary or edge that the named row takes. -/
def Obligations.PhasesCountPeriodsAndEdges : Prop :=
  ∀ s : State,
    let period := { s with conv := { s.conv with wc := s.conv.wc + 1 } }
    let edge := { s with conv := { s.conv with mc := s.conv.mc + 1 } }
    let w := s.conv.window.getD 0
    (s.conv.phase = .idle → exec .periodBoundary s = .next s ∧ exec .oscillatorEdge s = .next s) ∧
    (s.conv.phase = .refSettle →
      exec .oscillatorEdge s = .next s ∧
      exec .periodBoundary s =
        if s.conv.wc + 1 < s.conv.ref.settle.toNat then .next period else exec .refSettleExpiry s) ∧
    (∀ o, s.conv.phase = .refCount o →
      exec .periodBoundary s =
        if s.conv.wc + 1 ≤ s.conv.windowLimit.toNat then .next period else exec .refTimeout s) ∧
    (s.conv.phase = .refCount false → exec .oscillatorEdge s = exec .openingEdge s) ∧
    (s.conv.phase = .refCount true →
      exec .oscillatorEdge s =
        if s.conv.mc + 1 < 256 * 2 ^ s.conv.request.target.val then .next edge else exec .referenceComplete s) ∧
    (s.conv.phase = .snsSettle →
      exec .oscillatorEdge s = .next s ∧
      exec .periodBoundary s =
        if s.conv.wc + 1 < s.conv.chan.settle.toNat then .next period else exec .snsSettleExpiry s) ∧
    (s.conv.phase = .snsCount ∨ s.conv.phase = .snsCountB →
      exec .oscillatorEdge s =
        if s.conv.mc + 1 ≤ 16777215 then .next edge else exec .sensorOverrange s) ∧
    (s.conv.phase = .snsCount → s.conv.chan.ac = true →
      exec .periodBoundary s = if s.conv.wc + 1 < w / 2 then .next period else exec .firstHalfEnd s) ∧
    (s.conv.phase = .snsCount ∧ s.conv.chan.ac = false ∨ s.conv.phase = .snsCountB →
      exec .periodBoundary s = if s.conv.wc + 1 < w then .next period else exec .windowEnd s)

/-- REF_SETTLE_EXPIRY, OPENING_EDGE, SNS_SETTLE_EXPIRY and FIRST_HALF_END (R6, R7, R8, R12, R13). -/
def Obligations.PhasesFollowOneAnother : Prop :=
  ∀ s : State,
    (s.conv.phase = .refSettle → s.conv.ref.settle.toNat ≤ s.conv.wc + 1 →
      exec .refSettleExpiry s = .next
        { s with conv := { s.conv with
            phase := .refCount false, osc := .reference s.conv.request.reference, polarity := .a, mc := 0, wc := 0 } }) ∧
    (s.conv.phase = .refCount false →
      exec .openingEdge s = .next { s with conv := { s.conv with phase := .refCount true, mc := 0, wc := 0 } }) ∧
    (s.conv.phase = .snsSettle → s.conv.chan.settle.toNat ≤ s.conv.wc + 1 →
      exec .snsSettleExpiry s = .next
        { s with conv := { s.conv with
            phase := .snsCount, osc := .channel s.conv.request.channel, polarity := .a, mc := 0, wc := 0 } }) ∧
    (s.conv.phase = .snsCount → s.conv.chan.ac = true → s.conv.window.getD 0 / 2 ≤ s.conv.wc + 1 →
      exec .firstHalfEnd s = .next
        { s with conv := { s.conv with
            phase := .snsCountB, osc := .channel s.conv.request.channel, polarity := .b, n1 := s.conv.mc,
            wc := s.conv.wc + 1 } })

/-- REFERENCE_COMPLETE (R9, R10, R11, R40, R43): a window of 16 or more goes on to the sensor and is stored where the
generation still matches; a shorter one invalidates its key and ends the measurement. -/
def Obligations.ReferenceCompletionSetsTheWindow : Prop :=
  ∀ s : State, s.conv.phase = .refCount true → 256 * 2 ^ s.conv.request.target.val ≤ s.conv.mc + 1 →
    let r := s.conv.request.reference
    let k := s.conv.request.target
    let done := { s with conv := { s.conv with mc := s.conv.mc + 1, window := some s.conv.wc } }
    (16 ≤ s.conv.wc → s.references[r].generation = s.conv.ref.generation →
      exec .referenceComplete s = .next
        { done with cache := { s.cache with
            slots := (CacheSlot.mk r k s.conv.wc 0 :: s.otherKeys r k).take 8 } }.sensorBegun) ∧
    (16 ≤ s.conv.wc → s.references[r].generation ≠ s.conv.ref.generation →
      exec .referenceComplete s = .next done.sensorBegun) ∧
    (s.conv.wc < 16 →
      exec .referenceComplete s = .next
        (finish { status := .windowShort, warnings := s.conv.warnings, ratioValid := false, window := s.conv.wc,
                  count := 0, ratio := 0 }
          { done with cache := { s.cache with slots := s.otherKeys r k } }))

/-- REF_TIMEOUT and SENSOR_OVERRANGE (R8, R10, R14, R19, R43): the measurement ends with the fault; the counters stay
as they stand. In the reference phases no window has been obtained (StepKeepsRanges), so a REF_TIMEOUT result has window
0. -/
def Obligations.FaultsEndTheMeasurement : Prop :=
  ∀ s : State,
    (∀ o, s.conv.phase = .refCount o → PhaseLaw s.conv → s.conv.windowLimit.toNat < s.conv.wc + 1 →
      exec .refTimeout s = .next
        (finish { status := .refTimeout, warnings := s.conv.warnings, ratioValid := false,
                  window := 0, count := 0, ratio := 0 }
          { s with cache := { s.cache with
              slots := s.otherKeys s.conv.request.reference s.conv.request.target } })) ∧
    (s.conv.phase = .snsCount ∨ s.conv.phase = .snsCountB → 16777215 < s.conv.mc + 1 →
      exec .sensorOverrange s = .next
        (finish { status := .sensorOverrange, warnings := s.conv.warnings, ratioValid := false,
                  window := s.conv.window.getD 0, count := 0, ratio := 0 } s))

/-- WINDOW_END (R12, R13, R15 to R19): the underrange check, the imbalance check of a good AC repetition, the next
repetition, and the completion with its ratio. -/
def Obligations.WindowEndChecksAndCounts : Prop :=
  ∀ s : State, s.conv.phase = .snsCount ∧ s.conv.chan.ac = false ∨ s.conv.phase = .snsCountB →
    s.conv.window.getD 0 ≤ s.conv.wc + 1 →
    let n := s.conv.mc
    let n1 : Int := s.conv.n1
    let n2 : Int := (s.conv.mc - s.conv.n1 : Nat)
    let l := s.conv.chan.imbalance.toNat
    let imbalanced := s.conv.chan.ac && decide (l ≠ 0) && decide ((l : Int) * (n1 + n2) < |n1 - n2| * 256)
    let warned := { s.conv.warnings with imbalance := s.conv.warnings.imbalance || imbalanced }
    let reps := 2 ^ s.conv.request.repeatCode.val
    let total := s.conv.acc + n
    let quotient := 256 * 2 ^ s.conv.request.target.val * reps * 65536 / total
    let final := { warned with ratioSat := warned.ratioSat || decide (16777215 < quotient) }
    (n < s.conv.chan.minCount.toNat →
      exec .windowEnd s = .next
        (finish { status := .sensorUnderrange, warnings := s.conv.warnings, ratioValid := false,
                  window := s.conv.window.getD 0, count := 0, ratio := 0 }
          { s with conv := { s.conv with wc := s.conv.wc + 1 } })) ∧
    (s.conv.chan.minCount.toNat ≤ n → s.conv.repIndex < reps →
      exec .windowEnd s = .next
        { s with conv := { s.conv with
            phase := .snsCount, osc := .channel s.conv.request.channel, polarity := .a, mc := 0, wc := 0,
            repIndex := s.conv.repIndex + 1, acc := total, warnings := warned } }) ∧
    (s.conv.chan.minCount.toNat ≤ n → reps ≤ s.conv.repIndex →
      exec .windowEnd s = .next
        (finish { status := .ok, warnings := final, ratioValid := true, window := s.conv.window.getD 0,
                  count := total, ratio := min quotient 16777215 }
          { s with conv := { s.conv with wc := s.conv.wc + 1, acc := total, warnings := final } }))

/-- A spot-owned measurement ends (R4, R100, R106): the unit is released, the spot window takes the record, SPOT_DONE
is raised, and the arbiter decides. That the unit keeps W, N1, S and the rest in IDLE is log 9. -/
def Obligations.SpotTakesItsResult : Prop :=
  ∀ (r : Result) (s : State), s.conv.owner = some .spot →
    exec .grant (s.unitReleased.spotEnded r) = .next (finish r s)

/-- A scan-owned measurement ends (R4, R80 to R89, R100): its record is built, offered to its slot and to the FIFO,
and counted, held or dropped; the walk moves on to the next entry, or the scan ends and a latched trigger may start the
next; and the arbiter decides. What the walk does at an entry, enabled or disabled, is in
DisabledEntriesAreRecordedAtOnce. That the unit keeps W, N1, S and the rest in IDLE is log 9. -/
def Obligations.ScanTakesItsResult : Prop :=
  ∀ (r : Result) (s : State), s.conv.owner = some .scan → s.ctl.state = .scanning →
    let m := s.measurement r
    exec .grant ((offerAndFlag m s.unitReleased).recordOffered m) = .next (finish r s)

/-- HELD_RECORD_REOFFER (R83, R85 to R89): where the FIFO has a place the held record is appended, counted, and the
walk goes on; else it stays held. -/
def Obligations.HeldRecordIsOfferedAgain : Prop :=
  ∀ (m : MeasRecord) (s : State), s.ctl.state = .holdRecord → s.ctl.held = some m →
    (s.fifo.records.length + s.fifo.reserved.toNat ≤ 31 →
      ∃ u, exec .grant
          ((({ s with ctl := { s.ctl with state := .scanning, held := none } }.appended (.measurement m)).counted
            m false).walkedOn m) = .next u ∧
        exec .heldRecordReoffer s = .next u) ∧
    (31 < s.fifo.records.length + s.fifo.reserved.toNat → exec .heldRecordReoffer s = .next s)

/-- HELD_START_RETRY (R77) and PENDING_TRIGGER_START (R89): each makes a scan start attempt that takes up the pending
trigger. As commands of their own they are the model's choice (log 12). -/
def Obligations.WaitingTriggersStartScans : Prop :=
  ∀ s : State,
    (s.ctl.state = .holdStart → s.fifo.records.length < 32 →
      ∃ u, exec .grant s.scanStarted = .next u ∧ exec .heldStartRetry s = .next u) ∧
    (s.ctl.state = .holdStart → 32 ≤ s.fifo.records.length → exec .heldStartRetry s = .next s) ∧
    (s.ctl.state = .armed → s.ctl.pendingTrigger = true → s.fifo.records.length < 32 →
      ∃ u, exec .grant s.scanStarted = .next u ∧ exec .pendingTriggerStart s = .next u) ∧
    (s.ctl.state = .armed → s.ctl.pendingTrigger = true → 32 ≤ s.fifo.records.length →
      exec .pendingTriggerStart s = .next s.attempted)

/-- What the walk does at an entry it reaches, in any run and from any command (R76, R78, R80, R82, R84 to R89): an
enabled channel is requested; a disabled one has its CHANNEL_DISABLED record offered in the same step, and the walk goes
on from it, to the next entry, to the end of the scan and to a scan that a latched trigger starts. The rest says what
that comes to in a SINGLE run over disabled channels alone: a list whose records all fit is appended in entry order with
its SCAN_END record, and of a list of 32 on an empty FIFO the last record finds no place. -/
def Obligations.DisabledEntriesAreRecordedAtOnce : Prop :=
  (∀ s : State, s.channels[s.entryInHand.channel].enabled = true → reachOn s = s.entryRequested) ∧
  (∀ s : State, s.channels[s.entryInHand.channel].enabled = false → reachOn s = s.recordOffered s.disabledRecord) ∧
  ∀ s : State, WritingAt 0x00#7 s → s.ctl.state = .idle → s.list.pendingFlag = false →
    s.list.activeBank.length ≠ 0 →
    (∀ i : Fin 32, i.val < s.list.activeBank.length.val →
      s.channels[s.list.activeBank.entries[i].channel].enabled = false) →
    let record (i : Fin 32) : MeasRecord :=
      let e := s.list.activeBank.entries[i]
      { status := .channelDisabled, warnings := { imbalance := false, cached := false, ratioSat := false },
        ratioValid := false, entryIndex := i, tag := e.tag, channel := e.channel, reference := e.reference,
        repeatCode := e.repeatCode, seq := s.ctl.seq + 1, window := 0, count := 0, ratio := 0 }
    let records (n : Nat) : List FifoRecord := ((List.finRange 32).take n).map fun i => .measurement (record i)
    let scanEnd (n dropped : Nat) : FifoRecord :=
      .scanEnd { termination := .complete, seq := s.ctl.seq + 1, measured := n, faults := 0, discarded := dropped,
                 skipped := s.ctl.skipTally }
    ∃ t, exec .startSingle s = .next t ∧
      (s.fifo.records.length + s.list.activeBank.length.val ≤ 31 →
        t.port = (s.answered 0x01#8 .done 1).port ∧ t.ctl.state = .idle ∧ t.fifo.reserved = false ∧
        t.fifo.records = s.fifo.records ++ records s.list.activeBank.length.val ++
          [scanEnd s.list.activeBank.length.val 0]) ∧
      (s.fifo.records = [] → s.list.activeBank.length.val = 32 → s.ctl.scanCtrl.discard = false →
        t.ctl.state = .holdRecord ∧ t.ctl.held = some (record 31) ∧ t.ctl.measured = 31 ∧ t.fifo.reserved = true ∧
        t.fifo.records = records 31) ∧
      (s.fifo.records = [] → s.list.activeBank.length.val = 32 → s.ctl.scanCtrl.discard = true →
        t.ctl.state = .idle ∧ t.fifo.reserved = false ∧ t.fifo.records = records 31 ++ [scanEnd 32 1])

/-! ### What every step keeps -/

/-- The active bank does not change while a scan is in progress (R53): a step that begins and ends in one and the same
scan leaves it as it is. A scan starts and goes on only with an active bank of at least one entry, with the entry index
inside it, and a commit waits only with an edit bank of at least one entry (R53, R59, R64). -/
def Obligations.ActiveBankStandsDuringAScan : Prop :=
  (∀ s t : State, ScanInProgress s → step s = .next t → ScanInProgress t → t.ctl.seq = s.ctl.seq →
    t.list.activeBank = s.list.activeBank) ∧
  ∀ s t : State, ListLaw s → step s = .next t → ListLaw t

/-- The holder is NONE exactly when the unit is IDLE, and is the unit's owner (R4); the oscillator, the polarity and the
excitation lines follow the phase (R1). -/
def Obligations.StepKeepsUnitLaws : Prop :=
  ∀ s t : State, HolderMatchesUnit s → OscillatorFollowsPhase s → step s = .next t →
    HolderMatchesUnit t ∧ OscillatorFollowsPhase t

/-- The reservation stands exactly while a scan is in progress, and always fits (R118). -/
def Obligations.StepKeepsReservationLaw : Prop :=
  ∀ s t : State, ReservationLaw s → step s = .next t → ReservationLaw t

/-- At most eight valid slots, one for each key, no age above 15 (R36). -/
def Obligations.StepKeepsCacheLaw : Prop :=
  ∀ s t : State, CacheLaw s → step s = .next t → CacheLaw t

/-- The pending fields of every limit slot (R134, R135). -/
def Obligations.StepKeepsSlotLaw : Prop :=
  ∀ s t : State, SlotLaw s → step s = .next t → SlotLaw t

/-- In IDLE no commit waits (R62) and the scan timer is stopped at 0 (R174, R178), while a running timer has a unit
remaining (R174 to R177). With CS_N high, or in reset, the port is in IDLE and MISO high-impedance (R182, R184, R194). -/
def Obligations.StepKeepsIdleLaws : Prop :=
  (∀ s t : State, NoCommitWaitsInIdle s → TimerLaw s → step s = .next t → NoCommitWaitsInIdle t ∧ TimerLaw t) ∧
  ∀ s t : State, FrameLaw s → step s = .next t → FrameLaw t

/-- A latched record that is not consumed is the head, in both windows, and the event queue holds at most 16 records
(R124, R157, R161). -/
def Obligations.StepKeepsLatchesOnHeads : Prop :=
  ∀ s t : State, EventQueueLaw s → ResultLatchLaw s → step s = .next t → EventQueueLaw t ∧ ResultLatchLaw t

/-- In a scan in progress the tallies agree with the walk (R85, R196). -/
def Obligations.StepKeepsTallyLaw : Prop :=
  ∀ s t : State, TallyLaw s → step s = .next t → TallyLaw t

/-- Registers and counters stay in their ranges, and no window is in hand in the reference phases (01 section 1.1, R10,
R28, R36, R39, R65, R130, R173, R177). -/
def Obligations.StepKeepsRanges : Prop :=
  ∀ s t : State, RegisterLaw s → CounterLaw s → step s = .next t → RegisterLaw t ∧ CounterLaw t

/-- The controller, the arbiter, the spot port and the unit agree on who waits and who is served (R65, R97 to R100,
R103). -/
def Obligations.SpotAndScanRequestsStandWhereTheySay : Prop :=
  ∀ s t : State,
    HolderMatchesUnit s → ControllerLaw s → ScanRequestLaw s → SpotLaw s → NoRequestWaitsForAFreeUnit s →
    step s = .next t →
    HolderMatchesUnit t ∧ ControllerLaw t ∧ ScanRequestLaw t ∧ SpotLaw t ∧ NoRequestWaitsForAFreeUnit t
end

