-- ==== Sys2Proof/Laws/State.lean ====
section
/-! SUPPORT. What each small update of the part leaves as it stood: one lemma per field per update, for simp. -/

namespace Sys2Proof.Machine

variable (s : State)

@[simp] theorem raise_conv (c : Cause) : (raise c s).conv = s.conv := rfl
@[simp] theorem raise_arb (c : Cause) : (raise c s).arb = s.arb := rfl
@[simp] theorem raise_spot (c : Cause) : (raise c s).spot = s.spot := rfl
@[simp] theorem raise_channels (c : Cause) : (raise c s).channels = s.channels := rfl
@[simp] theorem raise_references (c : Cause) : (raise c s).references = s.references := rfl
@[simp] theorem raise_cache (c : Cause) : (raise c s).cache = s.cache := rfl
@[simp] theorem raise_list (c : Cause) : (raise c s).list = s.list := rfl
@[simp] theorem raise_ctl (c : Cause) : (raise c s).ctl = s.ctl := rfl
@[simp] theorem raise_fifo (c : Cause) : (raise c s).fifo = s.fifo := rfl
@[simp] theorem raise_limits (c : Cause) : (raise c s).limits = s.limits := rfl
@[simp] theorem raise_events (c : Cause) : (raise c s).events = s.events := rfl
@[simp] theorem raise_time (c : Cause) : (raise c s).time = s.time := rfl
@[simp] theorem raise_port (c : Cause) : (raise c s).port = s.port := rfl
@[simp] theorem raise_pins (c : Cause) : (raise c s).pins = s.pins := rfl
@[simp] theorem raise_hostReceived (c : Cause) : (raise c s).hostReceived = s.hostReceived := rfl
@[simp] theorem raise_pending (c : Cause) : (raise c s).pending = s.pending := rfl

@[simp] theorem thresholdCheck_conv : (thresholdCheck s).conv = s.conv := by unfold thresholdCheck; split <;> rfl
@[simp] theorem thresholdCheck_arb : (thresholdCheck s).arb = s.arb := by unfold thresholdCheck; split <;> rfl
@[simp] theorem thresholdCheck_spot : (thresholdCheck s).spot = s.spot := by unfold thresholdCheck; split <;> rfl
@[simp] theorem thresholdCheck_channels : (thresholdCheck s).channels = s.channels := by unfold thresholdCheck; split <;> rfl
@[simp] theorem thresholdCheck_references : (thresholdCheck s).references = s.references := by unfold thresholdCheck; split <;> rfl
@[simp] theorem thresholdCheck_cache : (thresholdCheck s).cache = s.cache := by unfold thresholdCheck; split <;> rfl
@[simp] theorem thresholdCheck_list : (thresholdCheck s).list = s.list := by unfold thresholdCheck; split <;> rfl
@[simp] theorem thresholdCheck_ctl : (thresholdCheck s).ctl = s.ctl := by unfold thresholdCheck; split <;> rfl
@[simp] theorem thresholdCheck_fifo : (thresholdCheck s).fifo = s.fifo := by unfold thresholdCheck; split <;> rfl
@[simp] theorem thresholdCheck_limits : (thresholdCheck s).limits = s.limits := by unfold thresholdCheck; split <;> rfl
@[simp] theorem thresholdCheck_events : (thresholdCheck s).events = s.events := by unfold thresholdCheck; split <;> rfl
@[simp] theorem thresholdCheck_time : (thresholdCheck s).time = s.time := by unfold thresholdCheck; split <;> rfl
@[simp] theorem thresholdCheck_port : (thresholdCheck s).port = s.port := by unfold thresholdCheck; split <;> rfl
@[simp] theorem thresholdCheck_pins : (thresholdCheck s).pins = s.pins := by unfold thresholdCheck; split <;> rfl
@[simp] theorem thresholdCheck_hostReceived : (thresholdCheck s).hostReceived = s.hostReceived := by unfold thresholdCheck; split <;> rfl
@[simp] theorem thresholdCheck_pending : (thresholdCheck s).pending = s.pending := by unfold thresholdCheck; split <;> rfl

@[simp] theorem appendRecord_conv (r : FifoRecord) : (appendRecord r s).conv = s.conv := by simp [appendRecord]
@[simp] theorem appendRecord_arb (r : FifoRecord) : (appendRecord r s).arb = s.arb := by simp [appendRecord]
@[simp] theorem appendRecord_spot (r : FifoRecord) : (appendRecord r s).spot = s.spot := by simp [appendRecord]
@[simp] theorem appendRecord_channels (r : FifoRecord) : (appendRecord r s).channels = s.channels := by simp [appendRecord]
@[simp] theorem appendRecord_references (r : FifoRecord) : (appendRecord r s).references = s.references := by simp [appendRecord]
@[simp] theorem appendRecord_cache (r : FifoRecord) : (appendRecord r s).cache = s.cache := by simp [appendRecord]
@[simp] theorem appendRecord_list (r : FifoRecord) : (appendRecord r s).list = s.list := by simp [appendRecord]
@[simp] theorem appendRecord_ctl (r : FifoRecord) : (appendRecord r s).ctl = s.ctl := by simp [appendRecord]
@[simp] theorem appendRecord_limits (r : FifoRecord) : (appendRecord r s).limits = s.limits := by simp [appendRecord]
@[simp] theorem appendRecord_events (r : FifoRecord) : (appendRecord r s).events = s.events := by simp [appendRecord]
@[simp] theorem appendRecord_time (r : FifoRecord) : (appendRecord r s).time = s.time := by simp [appendRecord]
@[simp] theorem appendRecord_port (r : FifoRecord) : (appendRecord r s).port = s.port := by simp [appendRecord]
@[simp] theorem appendRecord_pins (r : FifoRecord) : (appendRecord r s).pins = s.pins := by simp [appendRecord]
@[simp] theorem appendRecord_hostReceived (r : FifoRecord) : (appendRecord r s).hostReceived = s.hostReceived := by simp [appendRecord]
@[simp] theorem appendRecord_pending (r : FifoRecord) : (appendRecord r s).pending = s.pending := by simp [appendRecord]

@[simp] theorem appendScanEnd_conv (r : ScanEndRecord) : (appendScanEnd r s).conv = s.conv := by simp [appendScanEnd]
@[simp] theorem appendScanEnd_arb (r : ScanEndRecord) : (appendScanEnd r s).arb = s.arb := by simp [appendScanEnd]
@[simp] theorem appendScanEnd_spot (r : ScanEndRecord) : (appendScanEnd r s).spot = s.spot := by simp [appendScanEnd]
@[simp] theorem appendScanEnd_channels (r : ScanEndRecord) : (appendScanEnd r s).channels = s.channels := by simp [appendScanEnd]
@[simp] theorem appendScanEnd_references (r : ScanEndRecord) : (appendScanEnd r s).references = s.references := by simp [appendScanEnd]
@[simp] theorem appendScanEnd_cache (r : ScanEndRecord) : (appendScanEnd r s).cache = s.cache := by simp [appendScanEnd]
@[simp] theorem appendScanEnd_list (r : ScanEndRecord) : (appendScanEnd r s).list = s.list := by simp [appendScanEnd]
@[simp] theorem appendScanEnd_ctl (r : ScanEndRecord) : (appendScanEnd r s).ctl = s.ctl := by simp [appendScanEnd]
@[simp] theorem appendScanEnd_limits (r : ScanEndRecord) : (appendScanEnd r s).limits = s.limits := by simp [appendScanEnd]
@[simp] theorem appendScanEnd_events (r : ScanEndRecord) : (appendScanEnd r s).events = s.events := by simp [appendScanEnd]
@[simp] theorem appendScanEnd_time (r : ScanEndRecord) : (appendScanEnd r s).time = s.time := by simp [appendScanEnd]
@[simp] theorem appendScanEnd_port (r : ScanEndRecord) : (appendScanEnd r s).port = s.port := by simp [appendScanEnd]
@[simp] theorem appendScanEnd_pins (r : ScanEndRecord) : (appendScanEnd r s).pins = s.pins := by simp [appendScanEnd]
@[simp] theorem appendScanEnd_hostReceived (r : ScanEndRecord) : (appendScanEnd r s).hostReceived = s.hostReceived := by simp [appendScanEnd]
@[simp] theorem appendScanEnd_pending (r : ScanEndRecord) : (appendScanEnd r s).pending = s.pending := by simp [appendScanEnd]

@[simp] theorem handEvent_conv (e : EventRecord) : (handEvent e s).conv = s.conv := by unfold handEvent; split <;> rfl
@[simp] theorem handEvent_arb (e : EventRecord) : (handEvent e s).arb = s.arb := by unfold handEvent; split <;> rfl
@[simp] theorem handEvent_spot (e : EventRecord) : (handEvent e s).spot = s.spot := by unfold handEvent; split <;> rfl
@[simp] theorem handEvent_channels (e : EventRecord) : (handEvent e s).channels = s.channels := by unfold handEvent; split <;> rfl
@[simp] theorem handEvent_references (e : EventRecord) : (handEvent e s).references = s.references := by unfold handEvent; split <;> rfl
@[simp] theorem handEvent_cache (e : EventRecord) : (handEvent e s).cache = s.cache := by unfold handEvent; split <;> rfl
@[simp] theorem handEvent_list (e : EventRecord) : (handEvent e s).list = s.list := by unfold handEvent; split <;> rfl
@[simp] theorem handEvent_ctl (e : EventRecord) : (handEvent e s).ctl = s.ctl := by unfold handEvent; split <;> rfl
@[simp] theorem handEvent_fifo (e : EventRecord) : (handEvent e s).fifo = s.fifo := by unfold handEvent; split <;> rfl
@[simp] theorem handEvent_limits (e : EventRecord) : (handEvent e s).limits = s.limits := by unfold handEvent; split <;> rfl
@[simp] theorem handEvent_time (e : EventRecord) : (handEvent e s).time = s.time := by unfold handEvent; split <;> rfl
@[simp] theorem handEvent_port (e : EventRecord) : (handEvent e s).port = s.port := by unfold handEvent; split <;> rfl
@[simp] theorem handEvent_pins (e : EventRecord) : (handEvent e s).pins = s.pins := by unfold handEvent; split <;> rfl
@[simp] theorem handEvent_hostReceived (e : EventRecord) : (handEvent e s).hostReceived = s.hostReceived := by unfold handEvent; split <;> rfl
@[simp] theorem handEvent_pending (e : EventRecord) : (handEvent e s).pending = s.pending := by unfold handEvent; split <;> rfl

@[simp] theorem offerToSlot_conv (i : Fin 16) (r : MeasRecord) : (offerToSlot i r s).conv = s.conv := by unfold offerToSlot; grind [handEvent_conv]
@[simp] theorem offerToSlot_arb (i : Fin 16) (r : MeasRecord) : (offerToSlot i r s).arb = s.arb := by unfold offerToSlot; grind [handEvent_arb]
@[simp] theorem offerToSlot_spot (i : Fin 16) (r : MeasRecord) : (offerToSlot i r s).spot = s.spot := by unfold offerToSlot; grind [handEvent_spot]
@[simp] theorem offerToSlot_channels (i : Fin 16) (r : MeasRecord) : (offerToSlot i r s).channels = s.channels := by unfold offerToSlot; grind [handEvent_channels]
@[simp] theorem offerToSlot_references (i : Fin 16) (r : MeasRecord) : (offerToSlot i r s).references = s.references := by unfold offerToSlot; grind [handEvent_references]
@[simp] theorem offerToSlot_cache (i : Fin 16) (r : MeasRecord) : (offerToSlot i r s).cache = s.cache := by unfold offerToSlot; grind [handEvent_cache]
@[simp] theorem offerToSlot_list (i : Fin 16) (r : MeasRecord) : (offerToSlot i r s).list = s.list := by unfold offerToSlot; grind [handEvent_list]
@[simp] theorem offerToSlot_ctl (i : Fin 16) (r : MeasRecord) : (offerToSlot i r s).ctl = s.ctl := by unfold offerToSlot; grind [handEvent_ctl]
@[simp] theorem offerToSlot_fifo (i : Fin 16) (r : MeasRecord) : (offerToSlot i r s).fifo = s.fifo := by unfold offerToSlot; grind [handEvent_fifo]
@[simp] theorem offerToSlot_time (i : Fin 16) (r : MeasRecord) : (offerToSlot i r s).time = s.time := by unfold offerToSlot; grind [handEvent_time]
@[simp] theorem offerToSlot_port (i : Fin 16) (r : MeasRecord) : (offerToSlot i r s).port = s.port := by unfold offerToSlot; grind [handEvent_port]
@[simp] theorem offerToSlot_pins (i : Fin 16) (r : MeasRecord) : (offerToSlot i r s).pins = s.pins := by unfold offerToSlot; grind [handEvent_pins]
@[simp] theorem offerToSlot_hostReceived (i : Fin 16) (r : MeasRecord) : (offerToSlot i r s).hostReceived = s.hostReceived := by unfold offerToSlot; grind [handEvent_hostReceived]
@[simp] theorem offerToSlot_pending (i : Fin 16) (r : MeasRecord) : (offerToSlot i r s).pending = s.pending := by unfold offerToSlot; grind [handEvent_pending]

@[simp] theorem offerAndFlag_conv (r : MeasRecord) : (offerAndFlag r s).conv = s.conv := by unfold offerAndFlag; grind [offerToSlot_conv, raise_conv]
@[simp] theorem offerAndFlag_arb (r : MeasRecord) : (offerAndFlag r s).arb = s.arb := by unfold offerAndFlag; grind [offerToSlot_arb, raise_arb]
@[simp] theorem offerAndFlag_spot (r : MeasRecord) : (offerAndFlag r s).spot = s.spot := by unfold offerAndFlag; grind [offerToSlot_spot, raise_spot]
@[simp] theorem offerAndFlag_channels (r : MeasRecord) : (offerAndFlag r s).channels = s.channels := by unfold offerAndFlag; grind [offerToSlot_channels, raise_channels]
@[simp] theorem offerAndFlag_references (r : MeasRecord) : (offerAndFlag r s).references = s.references := by unfold offerAndFlag; grind [offerToSlot_references, raise_references]
@[simp] theorem offerAndFlag_cache (r : MeasRecord) : (offerAndFlag r s).cache = s.cache := by unfold offerAndFlag; grind [offerToSlot_cache, raise_cache]
@[simp] theorem offerAndFlag_list (r : MeasRecord) : (offerAndFlag r s).list = s.list := by unfold offerAndFlag; grind [offerToSlot_list, raise_list]
@[simp] theorem offerAndFlag_ctl (r : MeasRecord) : (offerAndFlag r s).ctl = s.ctl := by unfold offerAndFlag; grind [offerToSlot_ctl, raise_ctl]
@[simp] theorem offerAndFlag_fifo (r : MeasRecord) : (offerAndFlag r s).fifo = s.fifo := by unfold offerAndFlag; grind [offerToSlot_fifo, raise_fifo]
@[simp] theorem offerAndFlag_time (r : MeasRecord) : (offerAndFlag r s).time = s.time := by unfold offerAndFlag; grind [offerToSlot_time, raise_time]
@[simp] theorem offerAndFlag_port (r : MeasRecord) : (offerAndFlag r s).port = s.port := by unfold offerAndFlag; grind [offerToSlot_port, raise_port]
@[simp] theorem offerAndFlag_pins (r : MeasRecord) : (offerAndFlag r s).pins = s.pins := by unfold offerAndFlag; grind [offerToSlot_pins, raise_pins]
@[simp] theorem offerAndFlag_hostReceived (r : MeasRecord) : (offerAndFlag r s).hostReceived = s.hostReceived := by unfold offerAndFlag; grind [offerToSlot_hostReceived, raise_hostReceived]
@[simp] theorem offerAndFlag_pending (r : MeasRecord) : (offerAndFlag r s).pending = s.pending := by unfold offerAndFlag; grind [offerToSlot_pending, raise_pending]

@[simp] theorem claimSwap_conv : (claimSwap s).conv = s.conv := rfl
@[simp] theorem claimSwap_arb : (claimSwap s).arb = s.arb := rfl
@[simp] theorem claimSwap_spot : (claimSwap s).spot = s.spot := rfl
@[simp] theorem claimSwap_channels : (claimSwap s).channels = s.channels := rfl
@[simp] theorem claimSwap_references : (claimSwap s).references = s.references := rfl
@[simp] theorem claimSwap_cache : (claimSwap s).cache = s.cache := rfl
@[simp] theorem claimSwap_ctl : (claimSwap s).ctl = s.ctl := rfl
@[simp] theorem claimSwap_fifo : (claimSwap s).fifo = s.fifo := rfl
@[simp] theorem claimSwap_limits : (claimSwap s).limits = s.limits := rfl
@[simp] theorem claimSwap_events : (claimSwap s).events = s.events := rfl
@[simp] theorem claimSwap_attn : (claimSwap s).attn = s.attn := rfl
@[simp] theorem claimSwap_time : (claimSwap s).time = s.time := rfl
@[simp] theorem claimSwap_port : (claimSwap s).port = s.port := rfl
@[simp] theorem claimSwap_pins : (claimSwap s).pins = s.pins := rfl
@[simp] theorem claimSwap_hostReceived : (claimSwap s).hostReceived = s.hostReceived := rfl
@[simp] theorem claimSwap_pending : (claimSwap s).pending = s.pending := rfl

@[simp] theorem parkUnit_spot : (parkUnit s).spot = s.spot := rfl
@[simp] theorem parkUnit_channels : (parkUnit s).channels = s.channels := rfl
@[simp] theorem parkUnit_references : (parkUnit s).references = s.references := rfl
@[simp] theorem parkUnit_cache : (parkUnit s).cache = s.cache := rfl
@[simp] theorem parkUnit_list : (parkUnit s).list = s.list := rfl
@[simp] theorem parkUnit_ctl : (parkUnit s).ctl = s.ctl := rfl
@[simp] theorem parkUnit_fifo : (parkUnit s).fifo = s.fifo := rfl
@[simp] theorem parkUnit_limits : (parkUnit s).limits = s.limits := rfl
@[simp] theorem parkUnit_events : (parkUnit s).events = s.events := rfl
@[simp] theorem parkUnit_attn : (parkUnit s).attn = s.attn := rfl
@[simp] theorem parkUnit_time : (parkUnit s).time = s.time := rfl
@[simp] theorem parkUnit_port : (parkUnit s).port = s.port := rfl
@[simp] theorem parkUnit_pins : (parkUnit s).pins = s.pins := rfl
@[simp] theorem parkUnit_hostReceived : (parkUnit s).hostReceived = s.hostReceived := rfl
@[simp] theorem parkUnit_pending : (parkUnit s).pending = s.pending := rfl

@[simp] theorem tally_conv (r : MeasRecord) (d : Bool) : (tally r d s).conv = s.conv := rfl
@[simp] theorem tally_arb (r : MeasRecord) (d : Bool) : (tally r d s).arb = s.arb := rfl
@[simp] theorem tally_spot (r : MeasRecord) (d : Bool) : (tally r d s).spot = s.spot := rfl
@[simp] theorem tally_channels (r : MeasRecord) (d : Bool) : (tally r d s).channels = s.channels := rfl
@[simp] theorem tally_references (r : MeasRecord) (d : Bool) : (tally r d s).references = s.references := rfl
@[simp] theorem tally_cache (r : MeasRecord) (d : Bool) : (tally r d s).cache = s.cache := rfl
@[simp] theorem tally_list (r : MeasRecord) (d : Bool) : (tally r d s).list = s.list := rfl
@[simp] theorem tally_fifo (r : MeasRecord) (d : Bool) : (tally r d s).fifo = s.fifo := rfl
@[simp] theorem tally_limits (r : MeasRecord) (d : Bool) : (tally r d s).limits = s.limits := rfl
@[simp] theorem tally_events (r : MeasRecord) (d : Bool) : (tally r d s).events = s.events := rfl
@[simp] theorem tally_attn (r : MeasRecord) (d : Bool) : (tally r d s).attn = s.attn := rfl
@[simp] theorem tally_time (r : MeasRecord) (d : Bool) : (tally r d s).time = s.time := rfl
@[simp] theorem tally_port (r : MeasRecord) (d : Bool) : (tally r d s).port = s.port := rfl
@[simp] theorem tally_pins (r : MeasRecord) (d : Bool) : (tally r d s).pins = s.pins := rfl
@[simp] theorem tally_hostReceived (r : MeasRecord) (d : Bool) : (tally r d s).hostReceived = s.hostReceived := rfl
@[simp] theorem tally_pending (r : MeasRecord) (d : Bool) : (tally r d s).pending = s.pending := rfl

@[simp] theorem holdRecord_conv (r : MeasRecord) : (holdRecord r s).conv = s.conv := rfl
@[simp] theorem holdRecord_arb (r : MeasRecord) : (holdRecord r s).arb = s.arb := rfl
@[simp] theorem holdRecord_spot (r : MeasRecord) : (holdRecord r s).spot = s.spot := rfl
@[simp] theorem holdRecord_channels (r : MeasRecord) : (holdRecord r s).channels = s.channels := rfl
@[simp] theorem holdRecord_references (r : MeasRecord) : (holdRecord r s).references = s.references := rfl
@[simp] theorem holdRecord_cache (r : MeasRecord) : (holdRecord r s).cache = s.cache := rfl
@[simp] theorem holdRecord_list (r : MeasRecord) : (holdRecord r s).list = s.list := rfl
@[simp] theorem holdRecord_fifo (r : MeasRecord) : (holdRecord r s).fifo = s.fifo := rfl
@[simp] theorem holdRecord_limits (r : MeasRecord) : (holdRecord r s).limits = s.limits := rfl
@[simp] theorem holdRecord_events (r : MeasRecord) : (holdRecord r s).events = s.events := rfl
@[simp] theorem holdRecord_time (r : MeasRecord) : (holdRecord r s).time = s.time := rfl
@[simp] theorem holdRecord_port (r : MeasRecord) : (holdRecord r s).port = s.port := rfl
@[simp] theorem holdRecord_pins (r : MeasRecord) : (holdRecord r s).pins = s.pins := rfl
@[simp] theorem holdRecord_hostReceived (r : MeasRecord) : (holdRecord r s).hostReceived = s.hostReceived := rfl
@[simp] theorem holdRecord_pending (r : MeasRecord) : (holdRecord r s).pending = s.pending := rfl

@[simp] theorem closeScan_conv (t : Termination) : (closeScan t s).conv = s.conv := by simp [closeScan]
@[simp] theorem closeScan_arb (t : Termination) : (closeScan t s).arb = s.arb := by simp [closeScan]
@[simp] theorem closeScan_spot (t : Termination) : (closeScan t s).spot = s.spot := by simp [closeScan]
@[simp] theorem closeScan_channels (t : Termination) : (closeScan t s).channels = s.channels := by simp [closeScan]
@[simp] theorem closeScan_references (t : Termination) : (closeScan t s).references = s.references := by simp [closeScan]
@[simp] theorem closeScan_list (t : Termination) : (closeScan t s).list = s.list := by simp [closeScan]
@[simp] theorem closeScan_limits (t : Termination) : (closeScan t s).limits = s.limits := by simp [closeScan]
@[simp] theorem closeScan_events (t : Termination) : (closeScan t s).events = s.events := by simp [closeScan]
@[simp] theorem closeScan_time (t : Termination) : (closeScan t s).time = s.time := by simp [closeScan]
@[simp] theorem closeScan_port (t : Termination) : (closeScan t s).port = s.port := by simp [closeScan]
@[simp] theorem closeScan_pins (t : Termination) : (closeScan t s).pins = s.pins := by simp [closeScan]
@[simp] theorem closeScan_hostReceived (t : Termination) : (closeScan t s).hostReceived = s.hostReceived := by simp [closeScan]
@[simp] theorem closeScan_pending (t : Termination) : (closeScan t s).pending = s.pending := by simp [closeScan]

@[simp] theorem enterIdle_conv : (enterIdle s).conv = s.conv := rfl
@[simp] theorem enterIdle_arb : (enterIdle s).arb = s.arb := rfl
@[simp] theorem enterIdle_spot : (enterIdle s).spot = s.spot := rfl
@[simp] theorem enterIdle_channels : (enterIdle s).channels = s.channels := rfl
@[simp] theorem enterIdle_references : (enterIdle s).references = s.references := rfl
@[simp] theorem enterIdle_cache : (enterIdle s).cache = s.cache := rfl
@[simp] theorem enterIdle_fifo : (enterIdle s).fifo = s.fifo := rfl
@[simp] theorem enterIdle_limits : (enterIdle s).limits = s.limits := rfl
@[simp] theorem enterIdle_events : (enterIdle s).events = s.events := rfl
@[simp] theorem enterIdle_attn : (enterIdle s).attn = s.attn := rfl
@[simp] theorem enterIdle_port : (enterIdle s).port = s.port := rfl
@[simp] theorem enterIdle_pins : (enterIdle s).pins = s.pins := rfl
@[simp] theorem enterIdle_hostReceived : (enterIdle s).hostReceived = s.hostReceived := rfl
@[simp] theorem enterIdle_pending : (enterIdle s).pending = s.pending := rfl

@[simp] theorem enterArmed_conv : (enterArmed s).conv = s.conv := rfl
@[simp] theorem enterArmed_arb : (enterArmed s).arb = s.arb := rfl
@[simp] theorem enterArmed_spot : (enterArmed s).spot = s.spot := rfl
@[simp] theorem enterArmed_channels : (enterArmed s).channels = s.channels := rfl
@[simp] theorem enterArmed_references : (enterArmed s).references = s.references := rfl
@[simp] theorem enterArmed_cache : (enterArmed s).cache = s.cache := rfl
@[simp] theorem enterArmed_list : (enterArmed s).list = s.list := rfl
@[simp] theorem enterArmed_fifo : (enterArmed s).fifo = s.fifo := rfl
@[simp] theorem enterArmed_limits : (enterArmed s).limits = s.limits := rfl
@[simp] theorem enterArmed_events : (enterArmed s).events = s.events := rfl
@[simp] theorem enterArmed_attn : (enterArmed s).attn = s.attn := rfl
@[simp] theorem enterArmed_time : (enterArmed s).time = s.time := rfl
@[simp] theorem enterArmed_port : (enterArmed s).port = s.port := rfl
@[simp] theorem enterArmed_pins : (enterArmed s).pins = s.pins := rfl
@[simp] theorem enterArmed_hostReceived : (enterArmed s).hostReceived = s.hostReceived := rfl
@[simp] theorem enterArmed_pending : (enterArmed s).pending = s.pending := rfl

@[simp] theorem startScan_conv : (startScan s).conv = s.conv := rfl
@[simp] theorem startScan_arb : (startScan s).arb = s.arb := rfl
@[simp] theorem startScan_spot : (startScan s).spot = s.spot := rfl
@[simp] theorem startScan_channels : (startScan s).channels = s.channels := rfl
@[simp] theorem startScan_references : (startScan s).references = s.references := rfl
@[simp] theorem startScan_cache : (startScan s).cache = s.cache := rfl
@[simp] theorem startScan_list : (startScan s).list = s.list := rfl
@[simp] theorem startScan_limits : (startScan s).limits = s.limits := rfl
@[simp] theorem startScan_events : (startScan s).events = s.events := rfl
@[simp] theorem startScan_attn : (startScan s).attn = s.attn := rfl
@[simp] theorem startScan_time : (startScan s).time = s.time := rfl
@[simp] theorem startScan_port : (startScan s).port = s.port := rfl
@[simp] theorem startScan_pins : (startScan s).pins = s.pins := rfl
@[simp] theorem startScan_hostReceived : (startScan s).hostReceived = s.hostReceived := rfl
@[simp] theorem startScan_pending : (startScan s).pending = s.pending := rfl

@[simp] theorem skipScan_conv : (skipScan s).conv = s.conv := rfl
@[simp] theorem skipScan_arb : (skipScan s).arb = s.arb := rfl
@[simp] theorem skipScan_spot : (skipScan s).spot = s.spot := rfl
@[simp] theorem skipScan_channels : (skipScan s).channels = s.channels := rfl
@[simp] theorem skipScan_references : (skipScan s).references = s.references := rfl
@[simp] theorem skipScan_cache : (skipScan s).cache = s.cache := rfl
@[simp] theorem skipScan_list : (skipScan s).list = s.list := rfl
@[simp] theorem skipScan_fifo : (skipScan s).fifo = s.fifo := rfl
@[simp] theorem skipScan_limits : (skipScan s).limits = s.limits := rfl
@[simp] theorem skipScan_events : (skipScan s).events = s.events := rfl
@[simp] theorem skipScan_attn : (skipScan s).attn = s.attn := rfl
@[simp] theorem skipScan_time : (skipScan s).time = s.time := rfl
@[simp] theorem skipScan_port : (skipScan s).port = s.port := rfl
@[simp] theorem skipScan_pins : (skipScan s).pins = s.pins := rfl
@[simp] theorem skipScan_hostReceived : (skipScan s).hostReceived = s.hostReceived := rfl
@[simp] theorem skipScan_pending : (skipScan s).pending = s.pending := rfl

@[simp] theorem holdStart_conv : (holdStart s).conv = s.conv := rfl
@[simp] theorem holdStart_arb : (holdStart s).arb = s.arb := rfl
@[simp] theorem holdStart_spot : (holdStart s).spot = s.spot := rfl
@[simp] theorem holdStart_channels : (holdStart s).channels = s.channels := rfl
@[simp] theorem holdStart_references : (holdStart s).references = s.references := rfl
@[simp] theorem holdStart_cache : (holdStart s).cache = s.cache := rfl
@[simp] theorem holdStart_list : (holdStart s).list = s.list := rfl
@[simp] theorem holdStart_fifo : (holdStart s).fifo = s.fifo := rfl
@[simp] theorem holdStart_limits : (holdStart s).limits = s.limits := rfl
@[simp] theorem holdStart_events : (holdStart s).events = s.events := rfl
@[simp] theorem holdStart_time : (holdStart s).time = s.time := rfl
@[simp] theorem holdStart_port : (holdStart s).port = s.port := rfl
@[simp] theorem holdStart_pins : (holdStart s).pins = s.pins := rfl
@[simp] theorem holdStart_hostReceived : (holdStart s).hostReceived = s.hostReceived := rfl
@[simp] theorem holdStart_pending : (holdStart s).pending = s.pending := rfl

@[simp] theorem overrun_conv : (overrun s).conv = s.conv := rfl
@[simp] theorem overrun_arb : (overrun s).arb = s.arb := rfl
@[simp] theorem overrun_spot : (overrun s).spot = s.spot := rfl
@[simp] theorem overrun_channels : (overrun s).channels = s.channels := rfl
@[simp] theorem overrun_references : (overrun s).references = s.references := rfl
@[simp] theorem overrun_cache : (overrun s).cache = s.cache := rfl
@[simp] theorem overrun_list : (overrun s).list = s.list := rfl
@[simp] theorem overrun_fifo : (overrun s).fifo = s.fifo := rfl
@[simp] theorem overrun_limits : (overrun s).limits = s.limits := rfl
@[simp] theorem overrun_events : (overrun s).events = s.events := rfl
@[simp] theorem overrun_time : (overrun s).time = s.time := rfl
@[simp] theorem overrun_port : (overrun s).port = s.port := rfl
@[simp] theorem overrun_pins : (overrun s).pins = s.pins := rfl
@[simp] theorem overrun_hostReceived : (overrun s).hostReceived = s.hostReceived := rfl
@[simp] theorem overrun_pending : (overrun s).pending = s.pending := rfl

@[simp] theorem endSpot_conv (r : Result) : (endSpot r s).conv = s.conv := rfl
@[simp] theorem endSpot_arb (r : Result) : (endSpot r s).arb = s.arb := rfl
@[simp] theorem endSpot_channels (r : Result) : (endSpot r s).channels = s.channels := rfl
@[simp] theorem endSpot_references (r : Result) : (endSpot r s).references = s.references := rfl
@[simp] theorem endSpot_cache (r : Result) : (endSpot r s).cache = s.cache := rfl
@[simp] theorem endSpot_list (r : Result) : (endSpot r s).list = s.list := rfl
@[simp] theorem endSpot_ctl (r : Result) : (endSpot r s).ctl = s.ctl := rfl
@[simp] theorem endSpot_fifo (r : Result) : (endSpot r s).fifo = s.fifo := rfl
@[simp] theorem endSpot_limits (r : Result) : (endSpot r s).limits = s.limits := rfl
@[simp] theorem endSpot_events (r : Result) : (endSpot r s).events = s.events := rfl
@[simp] theorem endSpot_time (r : Result) : (endSpot r s).time = s.time := rfl
@[simp] theorem endSpot_port (r : Result) : (endSpot r s).port = s.port := rfl
@[simp] theorem endSpot_pins (r : Result) : (endSpot r s).pins = s.pins := rfl
@[simp] theorem endSpot_hostReceived (r : Result) : (endSpot r s).hostReceived = s.hostReceived := rfl
@[simp] theorem endSpot_pending (r : Result) : (endSpot r s).pending = s.pending := rfl

end Sys2Proof.Machine
end

