-- ==== Sys2Proof/Laws/Scan.lean ====
section
/-! SUPPORT. What each operation of the scan controller can do, said once: the cases of a start attempt, of a handled
record and of a scan end, the blocks the walk leaves alone, and the principle by which a law of the state is carried
through a whole step of the walk. -/

namespace Sys2Proof.Machine

/-! ### Cases -/

/-- The swap is claimed, and then the attempt starts, skips or holds the scan (R74). -/
theorem startAttempt_cases (s : State) :
    (s.fifo.count < Config.fifoCapacity ∧ startAttempt s = (startScan (claimSwap s), true)) ∨
    (¬s.fifo.count < Config.fifoCapacity ∧ s.ctl.scanCtrl.discard = true ∧
      startAttempt s = (skipScan (claimSwap s), false)) ∨
    (¬s.fifo.count < Config.fifoCapacity ∧ s.ctl.scanCtrl.discard = false ∧
      startAttempt s = (holdStart (claimSwap s), false)) := by
  by_cases h : s.fifo.count < Config.fifoCapacity
  · exact .inl ⟨h, by simp [startAttempt, h]⟩
  · cases hd : s.ctl.scanCtrl.discard
    · exact .inr (.inr ⟨h, rfl, by simp [startAttempt, h, hd]⟩)
    · exact .inr (.inl ⟨h, rfl, by simp [startAttempt, h, hd]⟩)

/-- A record that leaves the controller ends the scan FAULTED, moves the walk on, or ends it COMPLETE (R86, R87). -/
theorem afterRecord_cases (r : MeasRecord) (s : State) :
    (s.ctl.snapshot.faultStop = true ∧ r.status.isFault = true ∧ afterRecord r s = (s, .ends .faulted)) ∨
    (∃ i : Fin 32, i.val = s.ctl.entryIndex.val + 1 ∧ i.val < s.list.activeBank.length.val ∧
      afterRecord r s = ({ s with ctl := { s.ctl with entryIndex := i } }, .reaches)) ∨
    (¬s.ctl.entryIndex.val + 1 < s.list.activeBank.length.val ∧ afterRecord r s = (s, .ends .complete)) := by
  unfold afterRecord
  split
  · rename_i h
    simp only [Bool.and_eq_true] at h
    exact .inl ⟨h.1, h.2, rfl⟩
  · split
    · exact .inr (.inl ⟨_, rfl, ‹_›, rfl⟩)
    · exact .inr (.inr ⟨‹_›, rfl⟩)

/-- A built record is taken by the FIFO, dropped under DISCARD or held under STALL (R81, R82, R84). -/
theorem handleRecord_cases (r : MeasRecord) (s : State) :
    (s.fifo.hasPlace = true ∧
      handleRecord r s = afterRecord r (tally r false (appendRecord (.measurement r) (offerAndFlag r s)))) ∨
    (s.fifo.hasPlace = false ∧ s.ctl.snapshot.discard = true ∧
      handleRecord r s = afterRecord r (tally r true (offerAndFlag r s))) ∨
    (s.fifo.hasPlace = false ∧ s.ctl.snapshot.discard = false ∧
      handleRecord r s = (holdRecord r (offerAndFlag r s), .waits)) := by
  unfold handleRecord
  simp only [offerAndFlag_fifo, offerAndFlag_ctl]
  split
  · exact .inl ⟨‹_›, rfl⟩
  · split
    · exact .inr (.inl ⟨by simp_all, ‹_›, rfl⟩)
    · exact .inr (.inr ⟨by simp_all, by simp_all, rfl⟩)

/-- The walk requests an enabled entry's measurement, or handles a CHANNEL_DISABLED record (R78). -/
theorem reachEntry_cases (s : State) :
    (s.channels[s.entry.channel].enabled = true ∧
      reachEntry s = ({ s with ctl := { s.ctl with grantOutstanding := true },
                               arb := { s.arb with scanReq := some s.entry.request } }, .waits)) ∨
    (s.channels[s.entry.channel].enabled = false ∧
      reachEntry s = handleRecord (buildRecord s (emptyResult .channelDisabled)) s) := by
  unfold reachEntry
  split
  · exact .inl ⟨‹_›, rfl⟩
  · exact .inr ⟨by simp_all, rfl⟩

/-- The controller as a scan end leaves it, before the next state is decided (R88). -/
@[simp] theorem closeScan_ctl (t : Termination) (s : State) :
    (closeScan t s).ctl = { s.ctl with skipTally := 0, remaining := s.ctl.remaining - 1 } := by
  simp [closeScan]

/-- After a scan end the controller is IDLE, or ARMED with the answer whether a trigger is latched (R89). -/
theorem endScan_cases (t : Termination) (s : State) :
    (runEnds t s.ctl.remaining (closeScan t s).ctl = true ∧ endScan t s = (enterIdle (closeScan t s), false)) ∨
    (runEnds t s.ctl.remaining (closeScan t s).ctl = false ∧
      endScan t s = (enterArmed (closeScan t s), s.ctl.pendingTrigger)) := by
  cases h : runEnds t s.ctl.remaining (closeScan t s).ctl
  · refine .inr ⟨rfl, ?_⟩
    have : (closeScan t s).ctl.pendingTrigger = s.ctl.pendingTrigger := by rw [closeScan_ctl]
    simp only [endScan, h, this]; rfl
  · exact .inl ⟨rfl, by simp only [endScan, h]; rfl⟩

/-- The FIFO as a scan end leaves it: the SCAN_END record in the reserved place (R120). -/
@[simp] theorem closeScan_fifo (t : Termination) (s : State) :
    (closeScan t s).fifo =
      { s.fifo with records := s.fifo.records ++ [.scanEnd (scanEndRecord t s.ctl)], reserved := false } := by
  simp [closeScan, appendScanEnd, thresholdCheck]
  split <;> rfl

/-- A scan end ages the cache (R42). -/
@[simp] theorem closeScan_cache (t : Termination) (s : State) : (closeScan t s).cache = s.cache.aged := by
  simp [closeScan]

/-- The FIFO as an append leaves it (R119). -/
@[simp] theorem appendRecord_fifo (r : FifoRecord) (s : State) :
    (appendRecord r s).fifo = { s.fifo with records := s.fifo.records ++ [r] } := by
  simp [appendRecord, thresholdCheck]
  split <;> rfl

/-! ### The walk as a whole -/

/-- The blocks no step of the walk reaches: the conversion unit, the spot port, the channel and reference tables, the
host port, the pins, and what belongs to the outside. -/
structure WalkFrame (s t : State) : Prop where
  conv : t.conv = s.conv
  spot : t.spot = s.spot
  channels : t.channels = s.channels
  references : t.references = s.references
  port : t.port = s.port
  pins : t.pins = s.pins
  hostReceived : t.hostReceived = s.hostReceived
  pending : t.pending = s.pending

theorem WalkFrame.rfl {s : State} : WalkFrame s s := by constructor <;> rfl

theorem WalkFrame.trans {s t u : State} (h : WalkFrame s t) (k : WalkFrame t u) : WalkFrame s u := by
  constructor
  · exact k.conv.trans h.conv
  · exact k.spot.trans h.spot
  · exact k.channels.trans h.channels
  · exact k.references.trans h.references
  · exact k.port.trans h.port
  · exact k.pins.trans h.pins
  · exact k.hostReceived.trans h.hostReceived
  · exact k.pending.trans h.pending

theorem startAttempt_frame (s : State) : WalkFrame s (startAttempt s).1 := by
  rcases startAttempt_cases s with ⟨-, h⟩ | ⟨-, -, h⟩ | ⟨-, -, h⟩ <;> rw [h] <;> constructor <;> simp

theorem endScan_frame (t : Termination) (s : State) : WalkFrame s (endScan t s).1 := by
  rcases endScan_cases t s with ⟨-, h⟩ | ⟨-, h⟩ <;> rw [h] <;> constructor <;> simp

theorem afterRecord_frame (r : MeasRecord) (s : State) : WalkFrame s (afterRecord r s).1 := by
  rcases afterRecord_cases r s with ⟨-, -, h⟩ | ⟨i, -, -, h⟩ | ⟨-, h⟩ <;> rw [h] <;> constructor <;> rfl

theorem handleRecord_frame (r : MeasRecord) (s : State) : WalkFrame s (handleRecord r s).1 := by
  rcases handleRecord_cases r s with ⟨-, h⟩ | ⟨-, -, h⟩ | ⟨-, -, h⟩ <;> rw [h]
  · refine WalkFrame.trans ?_ (afterRecord_frame r _)
    constructor <;> simp
  · refine WalkFrame.trans ?_ (afterRecord_frame r _)
    constructor <;> simp
  · constructor <;> simp

theorem reachEntry_frame (s : State) : WalkFrame s (reachEntry s).1 := by
  rcases reachEntry_cases s with ⟨-, h⟩ | ⟨-, h⟩ <;> rw [h]
  · constructor <;> rfl
  · exact handleRecord_frame _ s

/-! ### Carrying a law through a step of the walk -/

/-- A law that every move of the walk keeps. The moves: a request placed, a record that leaves the controller and
moves the walk on, a record held, a scan end that takes up no trigger, and a scan end whose latched trigger makes the
next start attempt in the same step. Each is taken in SCANNING. -/
structure WalkKeeps (P : State → Prop) : Prop where
  request : ∀ s, s.ctl.state = .scanning → s.channels[s.entry.channel].enabled = true → P s → P (reachEntry s).1
  moves : ∀ r s, s.ctl.state = .scanning → P s → (handleRecord r s).2 ≠ .ends .complete →
    (handleRecord r s).2 ≠ .ends .faulted → P (handleRecord r s).1
  ends : ∀ r s t, s.ctl.state = .scanning → P s → (handleRecord r s).2 = .ends t →
    (endScan t (handleRecord r s).1).2 = false → P (endScan t (handleRecord r s).1).1
  restarts : ∀ r s t, s.ctl.state = .scanning → P s → (handleRecord r s).2 = .ends t →
    (endScan t (handleRecord r s).1).2 = true → P (startAttempt (endScan t (handleRecord r s).1).1).1

/-- Handling a record never ends a scan ABORTED: that is ABORT's alone (R86, R87, R95). -/
theorem handleRecord_not_aborted (r : MeasRecord) (s : State) : (handleRecord r s).2 ≠ .ends .aborted := by
  rcases handleRecord_cases r s with ⟨-, h⟩ | ⟨-, -, h⟩ | ⟨-, -, h⟩ <;> rw [h]
  · rcases afterRecord_cases r (tally r false (appendRecord (.measurement r) (offerAndFlag r s))) with
      ⟨-, -, k⟩ | ⟨i, -, -, k⟩ | ⟨-, k⟩ <;> rw [k] <;> simp
  · rcases afterRecord_cases r (tally r true (offerAndFlag r s)) with
      ⟨-, -, k⟩ | ⟨i, -, -, k⟩ | ⟨-, k⟩ <;> rw [k] <;> simp
  · simp

/-- What handling a record leaves of the controller's state and its pending trigger. -/
theorem handleRecord_ctl (r : MeasRecord) (s : State) (h : s.ctl.state = .scanning) :
    (handleRecord r s).1.ctl.pendingTrigger = s.ctl.pendingTrigger ∧
    ((handleRecord r s).2 ≠ .waits → (handleRecord r s).1.ctl.state = .scanning) := by
  rcases handleRecord_cases r s with ⟨-, e⟩ | ⟨-, -, e⟩ | ⟨-, -, e⟩ <;> rw [e]
  · rcases afterRecord_cases r (tally r false (appendRecord (.measurement r) (offerAndFlag r s))) with
      ⟨-, -, k⟩ | ⟨i, -, -, k⟩ | ⟨-, k⟩ <;> rw [k] <;> simp [tally, h]
  · rcases afterRecord_cases r (tally r true (offerAndFlag r s)) with
      ⟨-, -, k⟩ | ⟨i, -, -, k⟩ | ⟨-, k⟩ <;> rw [k] <;> simp [tally, h]
  · simp [holdRecord, raise]

variable {P : State → Prop}

/-- A step of the walk, once the walk's last move has been made: what `walkAndEnd` does with the outcome. -/
theorem walkAndEnd_handled (out : State × WalkNext) (h : out.2 ≠ .reaches) :
    walkAndEnd out = match out.2 with
      | .ends t => endScan t out.1
      | _ => (out.1, false) := by
  obtain ⟨s, n⟩ := out
  cases n <;> simp_all [walkAndEnd]

/-- What a walk over entries reached in one step can come to: it waits in a state that keeps the law, or a record ends
the scan. -/
theorem walk_cases (k : WalkKeeps P) (n : Nat) (s : State) (hs : s.ctl.state = .scanning) (hp : P s) :
    ((walk n s).2 = .waits ∧ P (walk n s).1 ∧ (walk n s).1.ctl.pendingTrigger = s.ctl.pendingTrigger) ∨
    (∃ r u t, u.ctl.state = .scanning ∧ P u ∧ u.ctl.pendingTrigger = s.ctl.pendingTrigger ∧
      (handleRecord r u).2 = .ends t ∧ walk n s = handleRecord r u) := by
  induction n generalizing s with
  | zero => exact .inl ⟨rfl, hp, rfl⟩
  | succ n ih =>
    rcases reachEntry_cases s with ⟨e, h⟩ | ⟨-, h⟩
    · have := k.request s hs e hp
      refine .inl ?_
      simp only [walk, h] at this ⊢
      exact ⟨trivial, this, trivial⟩
    · have hc := handleRecord_ctl (buildRecord s (emptyResult .channelDisabled)) s hs
      have hm := k.moves (buildRecord s (emptyResult .channelDisabled)) s hs hp
      cases hn : (handleRecord (buildRecord s (emptyResult .channelDisabled)) s).2 with
      | waits =>
        have hw : walk (n + 1) s = handleRecord (buildRecord s (emptyResult .channelDisabled)) s := by
          rw [walk, h]; revert hn; generalize handleRecord _ s = o; obtain ⟨u, v⟩ := o; rintro rfl; rfl
        rw [hw]
        exact .inl ⟨hn, hm (by simp [hn]) (by simp [hn]), hc.1⟩
      | reaches =>
        have hw : walk (n + 1) s = walk n (handleRecord (buildRecord s (emptyResult .channelDisabled)) s).1 := by
          rw [walk, h]; revert hn; generalize handleRecord _ s = o; obtain ⟨u, v⟩ := o; rintro rfl; rfl
        rw [hw]
        rcases ih _ (hc.2 (by simp [hn])) (hm (by simp [hn]) (by simp [hn])) with ⟨a, b, c⟩ | ⟨r, u, t, a, b, c, d, e⟩
        · exact .inl ⟨a, b, c.trans hc.1⟩
        · exact .inr ⟨r, u, t, a, b, c.trans hc.1, d, e⟩
      | ends t =>
        have hw : walk (n + 1) s = handleRecord (buildRecord s (emptyResult .channelDisabled)) s := by
          rw [walk, h]; revert hn; generalize handleRecord _ s = o; obtain ⟨u, v⟩ := o; rintro rfl; rfl
        exact .inr ⟨_, s, t, hs, hp, rfl, hn, hw⟩

/-- A scan that has just started, its trigger taken up, keeps the law to the end of the step. -/
theorem runScans_zero_keeps (k : WalkKeeps P) (s : State) (hs : s.ctl.state = .scanning) (hp : P s)
    (ht : s.ctl.pendingTrigger = false) : P (runScans 0 (s, .reaches)) := by
  rcases walk_cases k 32 s hs hp with ⟨a, b, -⟩ | ⟨r, u, t, a, b, c, d, e⟩
  · have : runScans 0 (s, .reaches) = (walk 32 s).1 := by
      simp only [runScans, walkAndEnd]; revert a; generalize walk 32 s = o; obtain ⟨u, v⟩ := o; rintro rfl; rfl
    rw [this]; exact b
  · have hw : runScans 0 (s, .reaches) = (endScan t (handleRecord r u).1).1 := by
      simp only [runScans, walkAndEnd, e]; revert d; generalize handleRecord r u = o; obtain ⟨v, w⟩ := o; rintro rfl; rfl
    rw [hw]
    refine k.ends r u t a b d ?_
    rcases endScan_cases t (handleRecord r u).1 with ⟨-, h⟩ | ⟨-, h⟩
    · rw [h]
    · rw [h]; simp [(handleRecord_ctl r u a).1, c, ht]

/-- A start attempt that starts its scan leaves SCANNING with no trigger pending (R76). -/
theorem startAttempt_started (s : State) (h : (startAttempt s).2 = true) :
    (startAttempt s).1.ctl.state = .scanning ∧ (startAttempt s).1.ctl.pendingTrigger = false := by
  rcases startAttempt_cases s with ⟨-, e⟩ | ⟨-, -, e⟩ | ⟨-, -, e⟩ <;> rw [e] at h ⊢ <;> simp_all [startScan]

/-- A handled record with the rest of its step keeps the law. -/
theorem continueWalk_handled_keeps (k : WalkKeeps P) (r : MeasRecord) (s : State) (hs : s.ctl.state = .scanning)
    (hp : P s) : P (continueWalk (handleRecord r s)) := by
  have ended : ∀ (r : MeasRecord) (u : State) (t : Termination) (out : State × WalkNext),
      u.ctl.state = .scanning → P u → (handleRecord r u).2 = .ends t →
      walkAndEnd out = endScan t (handleRecord r u).1 → P (runScans 1 out) := by
    intro r u t out a b d hw
    cases he : (endScan t (handleRecord r u).1).2 with
    | false =>
      have : runScans 1 out = (endScan t (handleRecord r u).1).1 := by
        simp only [runScans, hw]; revert he; generalize endScan t _ = o; obtain ⟨v, w⟩ := o; rintro rfl; rfl
      rw [this]; exact k.ends r u t a b d he
    | true =>
      have hr := k.restarts r u t a b d he
      have h1 : runScans 1 out = match startAttempt (endScan t (handleRecord r u).1).1 with
          | (v, true) => runScans 0 (v, .reaches)
          | (v, false) => v := by
        simp only [runScans, hw]; revert he; generalize endScan t _ = o; obtain ⟨v, w⟩ := o; rintro rfl; rfl
      have hst := startAttempt_started (endScan t (handleRecord r u).1).1
      rw [h1]
      revert hr hst
      generalize startAttempt (endScan t (handleRecord r u).1).1 = o
      obtain ⟨v, w⟩ := o
      cases w with
      | false => exact fun hr _ => hr
      | true => exact fun hr hst => runScans_zero_keeps k v (hst rfl).1 hr (hst rfl).2
  cases hn : (handleRecord r s).2 with
  | waits =>
    have : continueWalk (handleRecord r s) = (handleRecord r s).1 := by
      simp only [continueWalk, runScans, walkAndEnd_handled _ (by simp [hn] : (handleRecord r s).2 ≠ .reaches), hn]
    rw [this]; exact k.moves r s hs hp (by simp [hn]) (by simp [hn])
  | ends t =>
    refine ended r s t _ hs hp hn ?_
    simp only [walkAndEnd_handled _ (by simp [hn] : (handleRecord r s).2 ≠ .reaches), hn]
  | reaches =>
    have hm := k.moves r s hs hp (by simp [hn]) (by simp [hn])
    have hc := (handleRecord_ctl r s hs).2 (by simp [hn])
    have hw : walkAndEnd (handleRecord r s) = walkAndEnd (walk 32 (handleRecord r s).1) ∨
        ((walk 32 (handleRecord r s).1).2 = .reaches) := by
      by_cases hx : (walk 32 (handleRecord r s).1).2 = .reaches
      · exact .inr hx
      · left
        rw [walkAndEnd_handled _ hx]
        revert hn hx
        generalize handleRecord r s = o; obtain ⟨v, w⟩ := o; rintro rfl
        simp only [walkAndEnd]
        generalize walk 32 v = o; obtain ⟨v', w'⟩ := o
        cases w' <;> simp
    rcases walk_cases k 32 _ hc hm with ⟨a, b, -⟩ | ⟨r', u, t, a, b, c, d, e⟩
    · rcases hw with hw | hw
      · have : continueWalk (handleRecord r s) = (walk 32 (handleRecord r s).1).1 := by
          simp only [continueWalk, runScans, hw,
            walkAndEnd_handled _ (by simp [a] : (walk 32 (handleRecord r s).1).2 ≠ .reaches), a]
        rw [this]; exact b
      · rw [a] at hw; cases hw
    · rcases hw with hw | hw
      · refine ended r' u t _ a b d ?_
        rw [hw, e, walkAndEnd_handled _ (by simp [d] : (handleRecord r' u).2 ≠ .reaches), d]
      · rw [e, d] at hw; cases hw

/-- A scan that has just started, its trigger taken up, keeps the law to the end of the walk's step. -/
theorem continueWalk_started_keeps (k : WalkKeeps P) (u : State) (hs : u.ctl.state = .scanning)
    (ht : u.ctl.pendingTrigger = false) (hp : P u) : P (continueWalk (u, .reaches)) := by
  show P (runScans 1 (u, .reaches))
  have := runScans_zero_keeps k u hs hp ht
  have he : (walkAndEnd (u, .reaches)).2 = false := by
    rcases walk_cases k 32 u hs hp with ⟨a, -, -⟩ | ⟨r, v, t, a, -, c, d, e⟩
    · simp only [walkAndEnd]; revert a; generalize walk 32 u = o; obtain ⟨v, w⟩ := o; rintro rfl; rfl
    · simp only [walkAndEnd, e]
      have hc := (handleRecord_ctl r v a).1
      revert d hc
      generalize handleRecord r v = o; obtain ⟨x, y⟩ := o; rintro rfl hc
      rcases endScan_cases t x with ⟨-, h⟩ | ⟨-, h⟩
      · simp [h]
      · simp only [h]; exact hc.trans (c.trans ht)
  simp only [runScans] at this ⊢
  revert he this
  generalize walkAndEnd (u, .reaches) = o
  obtain ⟨v, w⟩ := o
  intro h he
  obtain rfl : w = false := he
  exact h

/-! ### One entry at a time -/

/-- A record that moves the walk on moves it to the next index (R87), and no record changes the pending trigger. -/
theorem handleRecord_moves (r : MeasRecord) (s : State) :
    (handleRecord r s).1.ctl.pendingTrigger = s.ctl.pendingTrigger ∧
    ((handleRecord r s).2 = .reaches → (handleRecord r s).1.ctl.entryIndex.val = s.ctl.entryIndex.val + 1) := by
  rcases handleRecord_cases r s with ⟨-, e⟩ | ⟨-, -, e⟩ | ⟨-, -, e⟩ <;> rw [e]
  · rcases afterRecord_cases r (tally r false (appendRecord (.measurement r) (offerAndFlag r s))) with
      ⟨-, -, k⟩ | ⟨i, h, -, k⟩ | ⟨-, k⟩ <;> rw [k] <;> simp_all [tally]
  · rcases afterRecord_cases r (tally r true (offerAndFlag r s)) with
      ⟨-, -, k⟩ | ⟨i, h, -, k⟩ | ⟨-, k⟩ <;> rw [k] <;> simp_all [tally]
  · simp [holdRecord, raise]

/-- The same of an entry reached. -/
theorem reachEntry_moves (s : State) :
    (reachEntry s).1.ctl.pendingTrigger = s.ctl.pendingTrigger ∧
    ((reachEntry s).2 = .reaches → (reachEntry s).1.ctl.entryIndex.val = s.ctl.entryIndex.val + 1) := by
  rcases reachEntry_cases s with ⟨-, e⟩ | ⟨-, e⟩ <;> rw [e]
  · simp
  · exact handleRecord_moves _ s

/-- A walk with enough steps for every index left takes no more with one step more. -/
theorem walk_succ (n : Nat) (s : State) (h : 32 ≤ n + s.ctl.entryIndex.val) : walk (n + 1) s = walk n s := by
  induction n generalizing s with
  | zero => have := s.ctl.entryIndex.isLt; omega
  | succ n ih =>
    have k := (reachEntry_moves s).2
    rw [walk, walk]
    revert k
    generalize reachEntry s = o
    obtain ⟨u, v⟩ := o
    cases v with
    | waits => exact fun _ => rfl
    | ends t => exact fun _ => rfl
    | reaches => exact fun k => ih u (by have := k rfl; simp only at this; omega)

/-- No walk changes the pending trigger. -/
theorem walk_trigger (n : Nat) (s : State) : (walk n s).1.ctl.pendingTrigger = s.ctl.pendingTrigger := by
  induction n generalizing s with
  | zero => rfl
  | succ n ih =>
    have k := (reachEntry_moves s).1
    rw [walk]
    revert k
    generalize reachEntry s = o
    obtain ⟨u, v⟩ := o
    cases v with
    | waits => exact fun k => k
    | ends t => exact fun k => k
    | reaches => exact fun k => (ih u).trans k

/-- Reaching an entry is taking its step and then going on from what it left. -/
theorem reachOn_eq (s : State) : reachOn s = continueWalk (reachEntry s) := by
  have h : walkAndEnd (s, .reaches) = walkAndEnd (reachEntry s) := by
    have k := (reachEntry_moves s).2
    simp only [walkAndEnd]
    rw [walk]
    revert k
    generalize reachEntry s = o
    obtain ⟨u, v⟩ := o
    cases v with
    | waits => exact fun _ => rfl
    | ends t => exact fun _ => rfl
    | reaches =>
      intro k
      have := k rfl
      simp only at this ⊢
      rw [walk_succ 31 u (by omega)]
  simp only [reachOn, continueWalk, runScans, h]

/-- A scan that starts with no trigger pending takes none up at its end. -/
theorem runScans_started (s : State) (ht : s.ctl.pendingTrigger = false) : runScans 0 (s, .reaches) = reachOn s := by
  have he : (walkAndEnd (s, .reaches)).2 = false := by
    have k := walk_trigger 32 s
    simp only [walkAndEnd]
    revert k
    generalize walk 32 s = o
    obtain ⟨u, v⟩ := o
    cases v with
    | waits => exact fun _ => rfl
    | reaches => exact fun _ => rfl
    | ends t =>
      intro k
      rcases endScan_cases t u with ⟨-, h⟩ | ⟨-, h⟩
      · simp [h]
      · simp only [h]; exact k.trans ht
  simp only [reachOn, continueWalk, runScans]
  revert he
  generalize walkAndEnd (s, .reaches) = o
  obtain ⟨v, w⟩ := o
  intro h
  obtain rfl : w = false := h
  rfl

/-! ### The frame of every step of the walk -/

theorem walk_frame (n : Nat) (s : State) : WalkFrame s (walk n s).1 := by
  induction n generalizing s with
  | zero => exact .rfl
  | succ n ih =>
    have h := reachEntry_frame s
    rw [walk]
    revert h
    generalize reachEntry s = o
    obtain ⟨u, v⟩ := o
    cases v with
    | reaches => exact fun h => h.trans (ih u)
    | waits => exact fun h => h
    | ends t => exact fun h => h

theorem walkAndEnd_frame (out : State × WalkNext) : WalkFrame out.1 (walkAndEnd out).1 := by
  obtain ⟨s, n⟩ := out
  cases n with
  | waits => exact .rfl
  | ends t => exact endScan_frame t s
  | reaches =>
    have h := walk_frame 32 s
    simp only [walkAndEnd]
    revert h
    generalize walk 32 s = o
    obtain ⟨u, v⟩ := o
    cases v with
    | reaches => exact fun h => h
    | waits => exact fun h => h
    | ends t => exact fun h => h.trans (endScan_frame t u)

theorem runScans_frame (n : Nat) (out : State × WalkNext) : WalkFrame out.1 (runScans n out) := by
  induction n generalizing out with
  | zero => exact walkAndEnd_frame out
  | succ n ih =>
    have h := walkAndEnd_frame out
    rw [runScans]
    revert h
    generalize walkAndEnd out = o
    obtain ⟨u, b⟩ := o
    cases b with
    | false => exact fun h => h
    | true =>
      intro h
      have k := startAttempt_frame u
      show WalkFrame out.1 (match startAttempt u with
        | (s', true) => runScans n (s', .reaches)
        | (s', false) => s')
      revert k
      generalize startAttempt u = o
      obtain ⟨v, c⟩ := o
      cases c with
      | false => exact fun k => h.trans k
      | true => exact fun k => (h.trans k).trans (ih (v, .reaches))

theorem continueWalk_frame (out : State × WalkNext) : WalkFrame out.1 (continueWalk out) := runScans_frame 1 out

theorem reachOn_frame (s : State) : WalkFrame s (reachOn s) := continueWalk_frame (s, .reaches)

theorem takeScanResult_frame (r : Result) (s : State) : WalkFrame s (takeScanResult r s) := by
  unfold takeScanResult
  split
  · exact (handleRecord_frame _ s).trans (continueWalk_frame _)
  · exact .rfl

end Sys2Proof.Machine
end

