-- ==== Sys2Proof/Laws/Arbiter.lean ====
section
/-! SUPPORT. What the arbiter and the conversion unit can do, said once: the cases of a grant, the blocks that no
grant, no end of a measurement and no trigger reaches, and the principle by which a law is carried through the grants
of a step. -/

namespace Sys2Proof.Machine

/-! ### Cases -/

/-- A grant begins a measurement, or ends at once on a disabled channel (R2, R3, R5). -/
theorem grantUnit_cases (who : Requester) (q : Request) (s : State) :
    (s.channels[q.channel].enabled = true ∧
      grantUnit who q s = (cacheStep { s with conv := beginMeasurement who q s }, none)) ∨
    (s.channels[q.channel].enabled = false ∧
      grantUnit who q s =
        ({ s with conv := beginMeasurement who q s }, some (emptyResult (disabledStatus who)))) := by
  cases h : s.channels[q.channel].enabled
  · exact .inr ⟨rfl, by simp only [grantUnit, beginMeasurement, h]; rfl⟩
  · exact .inl ⟨rfl, by simp only [grantUnit, beginMeasurement, h]; rfl⟩

/-- The cache step goes to the reference, the cache as it was, or to the sensor on a hit (R5, R38). -/
theorem cacheStep_cases (s : State) :
    cacheStep s = { s with conv := s.conv.enterRefSettle } ∨
    (∃ e, s.conv.request.fresh = false ∧ s.cache.hit s.conv.request.reference s.conv.request.target = some e ∧
      cacheStep s =
        { s with
          conv := { s.conv with window := some e.window,
                                warnings := { s.conv.warnings with cached := true } }.enterSnsSettle
          cache := { s.cache with
            slots := e :: dropKey s.conv.request.reference s.conv.request.target s.cache.slots } }) := by
  unfold cacheStep
  split
  · exact .inl rfl
  · rename_i hf
    simp only [Cache.lookup]
    split
    · rename_i w c h
      split at h
      · rename_i e he
        simp only [Prod.mk.injEq, Option.some.injEq] at h
        obtain ⟨rfl, rfl⟩ := h
        exact .inr ⟨e, by simpa using hf, he, rfl⟩
      · cases h
    · rename_i c h
      split at h
      · cases h
      · obtain ⟨-, rfl⟩ := Prod.mk.inj h
        exact .inl rfl

/-! ### Frames -/

/-- The blocks that no step of the measuring machinery reaches. -/
structure OuterFrame (s t : State) : Prop where
  channels : t.channels = s.channels
  references : t.references = s.references
  port : t.port = s.port
  pins : t.pins = s.pins
  hostReceived : t.hostReceived = s.hostReceived
  pending : t.pending = s.pending

theorem OuterFrame.rfl {s : State} : OuterFrame s s := by constructor <;> rfl

theorem OuterFrame.trans {s t u : State} (h : OuterFrame s t) (k : OuterFrame t u) : OuterFrame s u := by
  constructor
  · exact k.channels.trans h.channels
  · exact k.references.trans h.references
  · exact k.port.trans h.port
  · exact k.pins.trans h.pins
  · exact k.hostReceived.trans h.hostReceived
  · exact k.pending.trans h.pending

theorem WalkFrame.outer {s t : State} (h : WalkFrame s t) : OuterFrame s t :=
  ⟨h.channels, h.references, h.port, h.pins, h.hostReceived, h.pending⟩

theorem cacheStep_frame (s : State) : OuterFrame s (cacheStep s) := by
  rcases cacheStep_cases s with h | ⟨e, -, -, h⟩ <;> rw [h] <;> constructor <;> rfl

theorem grantUnit_frame (who : Requester) (q : Request) (s : State) : OuterFrame s (grantUnit who q s).1 := by
  rcases grantUnit_cases who q s with ⟨-, h⟩ | ⟨-, h⟩ <;> rw [h]
  · exact OuterFrame.trans (by constructor <;> rfl) (cacheStep_frame _)
  · constructor <;> rfl

theorem takeGrant_frame (who : Requester) (s : State) : OuterFrame s (takeGrant who s) := by
  cases who <;> constructor <;> rfl

theorem parkUnit_frame (s : State) : OuterFrame s (parkUnit s) := by constructor <;> rfl

theorem endSpot_frame (r : Result) (s : State) : OuterFrame s (endSpot r s) := by constructor <;> rfl

theorem deliver_frame (who : Requester) (r : Result) (s : State) : OuterFrame s (deliver who r s) := by
  cases who with
  | scan => exact (takeScanResult_frame r s).outer
  | spot => exact endSpot_frame r s

theorem arbitrateUpTo_frame (n : Nat) (s : State) : OuterFrame s (arbitrateUpTo n s) := by
  induction n generalizing s with
  | zero => exact .rfl
  | succ n ih =>
    rw [arbitrateUpTo]
    split
    · exact .rfl
    · split
      · exact .rfl
      · rename_i who q _
        have h := (takeGrant_frame who s).trans (grantUnit_frame who q _)
        revert h
        generalize grantUnit who q (takeGrant who s) = o
        obtain ⟨u, r⟩ := o
        cases r with
        | none => exact fun h => h
        | some r => exact fun h => ((h.trans (parkUnit_frame u)).trans (deliver_frame who r _)).trans (ih _)

theorem arbitrate_frame (s : State) : OuterFrame s (arbitrate s) := arbitrateUpTo_frame 3 s

theorem finish_frame (r : Result) (s : State) : OuterFrame s (finish r s) := by
  unfold finish
  split
  · exact (parkUnit_frame s).trans (arbitrate_frame _)
  · exact ((parkUnit_frame s).trans (deliver_frame _ r _)).trans (arbitrate_frame _)

theorem settleUnit_frame (out : State × Option Result) : OuterFrame out.1 (settleUnit out) := by
  obtain ⟨s, r⟩ := out
  cases r with
  | none => exact .rfl
  | some r => exact finish_frame r s

theorem takeBoundary_frame (k : Boundary) (s : State) : OuterFrame s (takeBoundary k s) := by
  cases k with
  | refTimeout => exact OuterFrame.trans (by constructor <;> rfl) (settleUnit_frame (refTimesOut s))
  | windowEnd =>
    refine OuterFrame.trans ?_ (settleUnit_frame (windowEnds s))
    unfold windowEnds
    constructor <;> dsimp only <;> split <;> (try rfl) <;> split <;> rfl
  | _ => constructor <;> rfl

theorem takeEdge_frame (k : Edge) (s : State) : OuterFrame s (takeEdge k s) := by
  cases k with
  | referenceComplete =>
    refine OuterFrame.trans ?_ (settleUnit_frame (referenceCompletes s))
    unfold referenceCompletes
    constructor <;> dsimp only <;> split <;> rfl
  | sensorOverrange => exact finish_frame _ s
  | _ => constructor <;> rfl

theorem attemptStart_frame (s : State) : OuterFrame s (attemptStart s).1 := by
  have h := startAttempt_frame s
  unfold attemptStart
  revert h
  generalize startAttempt s = o
  obtain ⟨u, b⟩ := o
  cases b with
  | false => exact fun h => h.outer
  | true => exact fun h => (h.trans (reachOn_frame u)).outer.trans (arbitrate_frame _)

theorem takeTrigger_frame (s : State) : OuterFrame s (takeTrigger s) := by
  unfold takeTrigger
  split
  · exact .rfl
  · exact attemptStart_frame s
  all_goals
    split <;> constructor <;> rfl

theorem reofferRecord_frame (s : State) : OuterFrame s (reofferRecord s) := by
  unfold reofferRecord
  split
  · exact .rfl
  · split
    · refine OuterFrame.trans ?_ (arbitrate_frame _)
      refine OuterFrame.trans ?_ (continueWalk_frame _).outer
      refine OuterFrame.trans ?_ (afterRecord_frame _ _).outer
      constructor <;> simp
    · exact .rfl

theorem roomReport_frame (s : State) : OuterFrame s (roomReport s) := by
  unfold roomReport
  split
  · exact attemptStart_frame s
  · exact reofferRecord_frame s
  all_goals exact .rfl

theorem takeLfBoundary_frame (k : LfBoundary) (s : State) : OuterFrame s (takeLfBoundary k s) := by
  cases k with
  | expiry =>
    show OuterFrame s (timerExpires s)
    unfold timerExpires deliverExpiry
    split
    · exact OuterFrame.trans (by constructor <;> rfl) (takeTrigger_frame _)
    · constructor <;> rfl
  | _ => constructor <;> rfl

theorem popResult_frame (s : State) : OuterFrame s (popResult s) := by
  unfold popResult
  split
  · exact .rfl
  · exact OuterFrame.trans (by constructor <;> rfl) (roomReport_frame _)

/-! ### Carrying a law through the grants of a step -/

/-- A law that a grant keeps, whether the measurement begins or ends at once, is kept by all the grants of a step. -/
theorem arbitrate_keeps {P : State → Prop}
    (begins : ∀ s who q, s.arb.holder = none → s.arb.choose = some (who, q) → s.channels[q.channel].enabled = true →
      P s → P (grantUnit who q (takeGrant who s)).1)
    (ends : ∀ s who q, s.arb.holder = none → s.arb.choose = some (who, q) →
      s.channels[q.channel].enabled = false → P s →
      P (deliver who (emptyResult (disabledStatus who)) (parkUnit (grantUnit who q (takeGrant who s)).1)))
    (s : State) (h : P s) : P (arbitrate s) := by
  suffices ∀ n s, P s → P (arbitrateUpTo n s) from this 3 s h
  intro n
  induction n with
  | zero => exact fun s h => h
  | succ n ih =>
    intro s h
    rw [arbitrateUpTo]
    split
    · exact h
    · rename_i hh
      have hn : s.arb.holder = none := by simpa using hh
      split
      · exact h
      · rename_i who q hc
        have hb := begins s who q hn hc
        have he := ends s who q hn hc
        have hch : (takeGrant who s).channels = s.channels := (takeGrant_frame who s).channels
        rcases grantUnit_cases who q (takeGrant who s) with ⟨e, hg⟩ | ⟨e, hg⟩ <;> rw [hch] at e <;>
          rw [hg] at hb he ⊢
        · exact hb e h
        · exact ih _ (he e h)

/-- A start attempt with the rest of its step keeps a law that the attempt, the walk and the grants keep. -/
theorem attemptStart_keeps {P : State → Prop} (k : WalkKeeps P) (arbitrates : ∀ s, P s → P (arbitrate s)) (s : State)
    (hp : P (startAttempt s).1) : P (attemptStart s).1 := by
  have hst := startAttempt_started s
  unfold attemptStart
  revert hp hst
  generalize startAttempt s = o
  obtain ⟨u, b⟩ := o
  cases b with
  | false => exact fun hp _ => hp
  | true =>
    intro hp hst
    exact arbitrates _ (continueWalk_started_keeps k u (hst rfl).1 (hst rfl).2 hp)

end Sys2Proof.Machine
end

