-- ==== Sys2Proof/Laws/Port.lean ====
section
/-! SUPPORT. What a command leaves of the port, and what a row of the port does, said once: the frame of every command,
the answer of a command row, and one data byte of a frame. -/

namespace Sys2Proof.Machine

/-! ### Commands -/

/-- Arguments out of range refuse the command and change nothing; else it goes on with them (R191). -/
theorem withArgs_cases {α : Type} (s : State) (parsed : Except Byte α) (k : α → Answer) :
    (∃ d, parsed = .error d ∧ withArgs s parsed k = refuse s .badArg d) ∨
    (∃ a, parsed = .ok a ∧ withArgs s parsed k = k a) := by
  cases parsed with
  | error d => exact .inl ⟨d, rfl, rfl⟩
  | ok a => exact .inr ⟨a, rfl, rfl⟩

/-- What every command leaves alone: the pins, what the host has received, the queue, and all of the port but PARAM. -/
structure CommandFrame (s t : State) : Prop where
  pins : t.pins = s.pins
  hostReceived : t.hostReceived = s.hostReceived
  pending : t.pending = s.pending
  port : ∃ p, t.port = { s.port with param := p }

theorem CommandFrame.rfl {s : State} : CommandFrame s s := ⟨Eq.refl _, Eq.refl _, Eq.refl _, s.port.param, Eq.refl _⟩

theorem CommandFrame.trans {s t u : State} (h : CommandFrame s t) (k : CommandFrame t u) : CommandFrame s u := by
  obtain ⟨p, hp⟩ := h.port
  obtain ⟨q, hq⟩ := k.port
  exact ⟨k.pins.trans h.pins, k.hostReceived.trans h.hostReceived, k.pending.trans h.pending, q, by rw [hq, hp]⟩

theorem OuterFrame.command {s t : State} (h : OuterFrame s t) : CommandFrame s t :=
  ⟨h.pins, h.hostReceived, h.pending, s.port.param, by rw [h.port]⟩

theorem CommandFrame.pointer {s t : State} (h : CommandFrame s t) : t.port.pointer = s.port.pointer := by
  obtain ⟨p, hp⟩ := h.port
  rw [hp]

theorem withArgs_frame {α : Type} (s : State) (parsed : Except Byte α) (k : α → Answer)
    (h : ∀ a, CommandFrame s (k a).state) : CommandFrame s (withArgs s parsed k).state := by
  rcases withArgs_cases s parsed k with ⟨d, -, e⟩ | ⟨a, -, e⟩ <;> rw [e]
  · exact .rfl
  · exact h a

theorem commandAttempt_frame (s : State) : CommandFrame s (commandAttempt s).state :=
  (attemptStart_frame s).command

/-- A changed state whose port and outside are literally those of `s`. -/
theorem CommandFrame.of_eq {s t : State} (h : t.pins = s.pins) (h' : t.hostReceived = s.hostReceived)
    (k : t.pending = s.pending) (k' : t.port = s.port) : CommandFrame s t :=
  ⟨h, h', k, s.port.param, by rw [k']⟩

/-- The frame of every command. -/
theorem runCommand_frame (c : Command) (s : State) : CommandFrame s (runCommand c s).state := by
  have param : ∀ p, CommandFrame s (s.withParam p) := fun p => ⟨rfl, rfl, rfl, p, rfl⟩
  have same : ∀ (t : State) (d : Byte), t.pins = s.pins → t.hostReceived = s.hostReceived → t.pending = s.pending →
      t.port = s.port → CommandFrame s (done t d).state := fun t d h h' k k' => .of_eq h h' k k'
  cases c with
  | startSingle =>
    show CommandFrame s (startSingle s).state
    unfold startSingle
    split
    · exact .rfl
    · split
      · exact .rfl
      · refine CommandFrame.trans ?_ (commandAttempt_frame _)
        exact .of_eq rfl rfl rfl rfl
  | startTimed =>
    show CommandFrame s (startTimed s).state
    unfold startTimed
    split
    · exact .rfl
    · refine CommandFrame.trans ?_ (commandAttempt_frame _)
      exact .of_eq rfl rfl rfl rfl
  | armTrigger =>
    show CommandFrame s (armTrigger s).state
    unfold armTrigger
    split
    · exact .rfl
    · exact same _ _ rfl rfl rfl rfl
  | stop =>
    show CommandFrame s (stopRun s).state
    unfold stopRun
    split <;> exact same _ _ rfl rfl rfl rfl
  | abort =>
    show CommandFrame s (abortRun s).state
    unfold abortRun
    split
    · exact .rfl
    iterate 2 exact same _ _ rfl rfl rfl rfl
    all_goals
      refine CommandFrame.trans ?_ (arbitrate_frame _).command
      unfold cutOffScan
      dsimp only
      split <;> exact .of_eq (by simp) (by simp) (by simp) (by simp)
  | resetEngine => exact same _ _ rfl rfl rfl rfl
  | setLength =>
    show CommandFrame s (setLength s).state
    unfold setLength
    split
    · exact .rfl
    · exact withArgs_frame s _ _ fun _ => same _ _ rfl rfl rfl rfl
  | writeEntry =>
    show CommandFrame s (writeEntry s).state
    unfold writeEntry
    split
    · exact .rfl
    · exact withArgs_frame s _ _ fun _ => same _ _ rfl rfl rfl rfl
  | commit =>
    show CommandFrame s (commit s).state
    unfold commit
    split
    · exact .rfl
    · split
      · exact .rfl
      · dsimp only
        split <;> exact same _ _ rfl rfl rfl rfl
  | readEntry => exact withArgs_frame s _ _ fun _ => param _
  | readChannel => exact withArgs_frame s _ _ fun _ => param _
  | readReference => exact withArgs_frame s _ _ fun _ => param _
  | readCache => exact withArgs_frame s _ _ fun _ => param _
  | readSlot => exact withArgs_frame s _ _ fun _ => param _
  | writeChannel => exact withArgs_frame s _ _ fun _ => same _ _ rfl rfl rfl rfl
  | writeReference => exact withArgs_frame s _ _ fun _ => same _ _ rfl rfl rfl rfl
  | writeSlot => exact withArgs_frame s _ _ fun _ => same _ _ rfl rfl rfl rfl
  | preloadWindow => exact withArgs_frame s _ _ fun _ => same _ _ rfl rfl rfl rfl
  | invalidateCache => exact same _ _ rfl rfl rfl rfl
  | spot =>
    show CommandFrame s (spotCommand s).state
    unfold spotCommand
    split
    · exact .rfl
    · refine withArgs_frame s _ _ fun q => ?_
      split
      · refine CommandFrame.trans ?_ (arbitrate_frame _).command
        exact .of_eq rfl rfl rfl rfl
      · exact .rfl
  | cancelSpot =>
    show CommandFrame s (cancelSpot s).state
    unfold cancelSpot
    split
    · exact .rfl
    · refine CommandFrame.trans ?_ (arbitrate_frame _).command
      exact .of_eq rfl rfl rfl rfl
    · refine CommandFrame.trans ?_ (arbitrate_frame (stopSpot s)).command
      unfold stopSpot
      split
      · exact .of_eq rfl rfl rfl rfl
      · exact .rfl
  | flushFifo =>
    refine CommandFrame.trans ?_ (roomReport_frame _).command
    exact .of_eq rfl rfl rfl rfl
  | setClock =>
    show CommandFrame s (setClock s).state
    unfold setClock
    split
    · exact .rfl
    · exact withArgs_frame s _ _ fun _ => same _ _ rfl rfl rfl rfl

/-- A command row, taken: the command's state with its answer in the port, the pointer moved on to CMD_RESULT (R183,
R190). -/
theorem commandRow_taken (c : Command) (s : State) (h : WritingAt 0x00#7 s) :
    commandRow c (runCommand c) s =
      (runCommand c s).state.answered c.code (runCommand c s).result (runCommand c s).detail := by
  have hp : (runCommand c s).state.port.pointer = 0#7 := (runCommand_frame c s).pointer.trans h.2
  simp [commandRow, writeRow, h.1, h.2, advance, complete, State.answered, hp]

/-- A write row, taken. -/
theorem writeRow_taken (a : Addr) (f : State → State) (s : State) (h : WritingAt a s) :
    writeRow a f s = (f s).written := by
  simp [writeRow, h.1, h.2, advance, State.written]

/-- A write row whose address the frame does not write. -/
theorem writeRow_not_taken (a : Addr) (f : State → State) (s : State) (h : ¬WritingAt a s) : writeRow a f s = s := by
  unfold writeRow
  exact if_neg h

/-! ### Reads -/

/-- One data byte of a read frame (R183, R185). -/
theorem readByte_eq (s : State) :
    readByte s = afterRead s.port.pointer
      (shiftOut (readValue (beforeRead s.port.pointer s) s.port.pointer) (beforeRead s.port.pointer s)) := rfl

/-- A read row at its address is one data byte. -/
theorem readRow_at (a : Addr) (s : State) (h : ReadingAt a s) : readRow a s = readByte s := by
  simp [readRow, h.1, h.2, readBytes]

/-- One data byte leaves the frame running and the pins as they are, and moves the pointer on (R183). -/
theorem readByte_port (s : State) :
    (readByte s).port.frame = s.port.frame ∧ (readByte s).port.pointer = s.port.pointer + 1 ∧
    (readByte s).pins = s.pins := by
  have before : ∀ a, (beforeRead a s).port.frame = s.port.frame ∧ (beforeRead a s).port.pointer = s.port.pointer ∧
      (beforeRead a s).pins = s.pins := by
    intro a
    unfold beforeRead
    split <;> exact ⟨rfl, rfl, rfl⟩
  have after : ∀ a u, (afterRead a u).port = u.port ∧ (afterRead a u).pins = u.pins := by
    intro a u
    unfold afterRead
    split
    · exact ⟨(popResult_frame u).port, (popResult_frame u).pins⟩
    all_goals exact ⟨rfl, rfl⟩
  obtain ⟨h1, h2, h3⟩ := before s.port.pointer
  rw [readByte_eq, (after _ _).1, (after _ _).2]
  simp [shiftOut, h1, h2, h3]

/-- A row that reads another address than the pointer's takes the byte there and then reads on (R183, R185). -/
theorem readRow_next (a : Addr) (s : State) (h : s.port.frame = .read) (hne : a ≠ s.port.pointer) :
    readRow a s = readRow a (readByte s) := by
  obtain ⟨h1, h2, -⟩ := readByte_port s
  have e : (a - s.port.pointer).toNat = (a - (s.port.pointer + 1)).toNat + 1 := by bv_omega
  simp only [readRow, h1, h2, h, if_true, e, readBytes]

/-- An access that reads is a read row, and one that writes a write row, of its address (R185). -/
@[simp] theorem accessRow_read (a : Addr) (s : State) : accessRow a .read s = readRow a s := rfl

@[simp] theorem accessRow_write (a : Addr) (v : Byte) (s : State) :
    accessRow a (.write v) s = writeRow a (writeValue a v) s := rfl

/-- Shifting a byte out, in the words of the statements. -/
theorem shiftOut_eq (v : Byte) (s : State) : shiftOut v s = s.read v := rfl

/-- An address whose read has no effect: no copy before the byte and nothing after it. -/
theorem plain_access (a : Addr) (h : a ∉ ownReadRows) (s : State) : beforeRead a s = s ∧ afterRead a s = s := by
  have ne : ∀ b ∈ ownReadRows, a.toNat ≠ b.toNat := fun b hb e => h (BitVec.eq_of_toNat_eq e ▸ hb)
  simp only [ownReadRows, List.mem_cons, List.not_mem_nil, or_false, forall_eq_or_imp, forall_eq] at ne
  obtain ⟨h1, h2, h3, h4, h5, h6, h7, h8, h9⟩ := ne
  constructor
  · unfold beforeRead
    split <;> first | rfl | (exfalso; simp_all)
  · unfold afterRead
    split <;> first | rfl | (exfalso; simp_all)

/-- A data byte read at an address whose read has no effect (R185). -/
theorem readByte_plain (s : State) (h : s.port.pointer ∉ ownReadRows) :
    readByte s = s.read (readValue s s.port.pointer) := by
  rw [readByte_eq, (plain_access _ h s).1, (plain_access _ h _).2, shiftOut_eq]

end Sys2Proof.Machine
end

