-- ==== Sys2Proof/Laws/Effects.lean ====
section
/-! SUPPORT. The model's operations in the words of the statements (Sys2Proof/Safety.lean): each operation of a step is
the change that Safety names. -/

namespace Sys2Proof.Machine

/-- An append in the words of the statements (R119, R131). -/
theorem appendRecord_eq (r : FifoRecord) (s : State) : appendRecord r s = s.appended r := by
  unfold appendRecord thresholdCheck State.appended
  by_cases h : s.fifo.records.length + 1 = s.fifo.threshold <;> simp [h, ResultFifo.count, raise, Cause.mask]

/-- The end of a scan, steps 1 to 5 (R88). -/
theorem closeScan_eq (t : Termination) (s : State) : closeScan t s = s.scanClosed t := by
  unfold closeScan appendScanEnd thresholdCheck State.scanClosed State.appended
  by_cases h : s.fifo.records.length + 1 = s.fifo.threshold <;> simp [h, ResultFifo.count, raise, Cause.mask] <;>
    exact ⟨rfl, rfl⟩

/-- The entry into IDLE (R62, R89, R178). -/
theorem enterIdle_eq (s : State) : enterIdle s = s.atRest := rfl

/-- A record counted (R85). -/
theorem tally_eq (r : MeasRecord) (dropped : Bool) (s : State) : tally r dropped s = s.counted r dropped := by
  unfold tally State.counted
  cases r.status <;> cases dropped <;> rfl

/-- A record of a scan (R80). -/
theorem buildRecord_eq (s : State) (r : Result) : buildRecord s r = s.measurement r := rfl

/-- The unit's return to IDLE (R4). -/
theorem parkUnit_eq (s : State) : parkUnit s = s.unitReleased := rfl

/-- A spot's end (R106). -/
theorem endSpot_eq (r : Result) (s : State) : endSpot r s = s.spotEnded r := rfl

/-! ### Starts -/

/-- A scan that starts reaches its entry 0 (R76). -/
theorem startScan_eq (s : State) : reachOn (startScan (claimSwap s)) = s.scanStarted := rfl

/-- A start attempt with a free place (R74, R76). -/
theorem attemptStart_room (s : State) (c : s.fifo.records.length < 32) :
    attemptStart s = (arbitrate s.scanStarted, true) := by
  unfold attemptStart
  rcases startAttempt_cases s with ⟨_, e⟩ | ⟨c', _⟩ | ⟨c', _⟩
  · rw [e]; exact congrArg (fun t => (arbitrate t, true)) (startScan_eq s)
  all_goals exact absurd c c'

/-- A start attempt without a free place (R74, R75). -/
theorem attemptStart_full (s : State) (c : 32 ≤ s.fifo.records.length) : attemptStart s = (s.attempted, false) := by
  have c0 : ¬s.fifo.records.length < 32 := by omega
  unfold attemptStart State.attempted
  rcases startAttempt_cases s with ⟨c', e⟩ | ⟨c', d, e⟩ | ⟨c', d, e⟩
  · exact absurd c' c0
  all_goals rw [e]; simp [c0, d]; rfl

/-- A trigger that starts no scan (R90, R91). -/
theorem takeTrigger_eq (s : State) (h : s.ctl.state ≠ .armed ∨ 32 ≤ s.fifo.records.length) :
    takeTrigger s = s.triggerTaken := by
  unfold takeTrigger State.triggerTaken
  cases hs : s.ctl.state <;> simp only
  · have := h.resolve_left (by simp [hs])
    rw [attemptStart_full s this]
  all_goals rfl

/-! ### The walk -/

/-- A start attempt that a scan end makes, with the rest of the walk's step (R74, R89). -/
theorem startAttempt_eq (s : State) :
    (match startAttempt s with
      | (u, true) => runScans 0 (u, .reaches)
      | (u, false) => u) = s.attempted := by
  unfold State.attempted
  rcases startAttempt_cases s with ⟨c, e⟩ | ⟨c, d, e⟩ | ⟨c, d, e⟩
  · have c' : s.fifo.records.length < 32 := c
    rw [e, if_pos c', ← startScan_eq]
    exact runScans_started _ rfl
  all_goals
    have c' : ¬s.fifo.records.length < 32 := c
    rw [e]; simp [c', d]; rfl

/-- The end of a scan, with the rest of its step (R88, R89). -/
theorem endScan_eq (t : Termination) (s : State) : continueWalk (s, .ends t) = s.scanEnded t := by
  have he : runEnds t s.ctl.remaining (closeScan t s).ctl = true ↔
      t ≠ .complete ∨ s.ctl.mode = .single ∨ s.ctl.stopRequested = true ∨
        (0 < s.ctl.remaining ∧ s.ctl.remaining - 1 = 0) := by
    rw [closeScan_ctl]
    simp [runEnds, Nat.pos_iff_ne_zero]
    tauto
  have hw : continueWalk (s, .ends t) = match endScan t s with
      | (u, false) => u
      | (u, true) => match startAttempt u with
        | (v, true) => runScans 0 (v, .reaches)
        | (v, false) => v := rfl
  unfold State.scanEnded
  rcases endScan_cases t s with ⟨h, e⟩ | ⟨h, e⟩
  · rw [hw, e, ← closeScan_eq]; dsimp only; rw [if_pos (he.1 h)]; rfl
  · have hn := fun c => Bool.false_ne_true (h.symm.trans (he.2 c))
    rw [hw, e, ← closeScan_eq]; dsimp only; rw [if_neg hn]
    cases s.ctl.pendingTrigger
    · rfl
    · exact startAttempt_eq (enterArmed (closeScan t s))

/-- The walk goes on from a counted record (R86, R87). -/
theorem afterRecord_eq (r : MeasRecord) (s : State) : continueWalk (afterRecord r s) = s.walkedOn r := by
  have hf : r.status.isFault = true ↔ r.status.code.toNat ∈ [1, 2, 3, 4] := by cases r.status <;> decide
  unfold State.walkedOn
  by_cases c : s.ctl.snapshot.faultStop = true ∧ r.status.isFault = true
  · rw [if_pos ⟨c.1, hf.1 c.2⟩, ← endScan_eq, afterRecord, if_pos (by simp [c.1, c.2])]
  · have c' : ¬(s.ctl.snapshot.faultStop && r.status.isFault) = true := by simpa [← Bool.and_eq_true] using c
    rw [if_neg (fun k => c ⟨k.1, hf.2 k.2⟩), afterRecord, if_neg c']
    split
    · rfl
    · exact endScan_eq .complete s

/-- A built record is offered to its slot and to the FIFO, and what follows is done (R81 to R87). -/
theorem handleRecord_eq (r : MeasRecord) (s : State) :
    continueWalk (handleRecord r s) = (offerAndFlag r s).recordOffered r := by
  have hp : ∀ f : ResultFifo, f.hasPlace = true ↔ f.records.length + f.reserved.toNat ≤ 31 := by
    intro f
    rw [ResultFifo.hasPlace, decide_eq_true_eq, ResultFifo.taken, ResultFifo.count, Config.fifoCapacity]
    omega
  unfold handleRecord State.recordOffered
  simp only [hp]
  split
  · rw [afterRecord_eq, tally_eq, appendRecord_eq]
  · split
    · rw [afterRecord_eq, tally_eq]
    · rfl

end Sys2Proof.Machine
end

