-- ==== Sys2Proof/Laws/Operands.lean ====
section
/-! SUPPORT. What each argument check answers, by the argument's numeric value, and the numeric value of the
multi-byte arguments. -/

namespace Sys2Proof.Machine

/-- An index in range is taken. -/
theorem indexArg_some {n : Nat} {b : Byte} {i : Fin n} (h : i.val = b.toNat) : indexArg n b = some i := by
  have hb : b.toNat < n := h ▸ i.isLt
  simp only [indexArg, hb, dite_true]
  exact congrArg some (Fin.ext h.symm)

/-- An index out of range is refused. -/
theorem indexArg_none {n : Nat} {b : Byte} (h : n ≤ b.toNat) : indexArg n b = none := by
  simp [indexArg, Nat.not_lt.mpr h]

/-- A yes or no in range is taken. -/
theorem boolArg_some {b : Byte} {x : Bool} (h : x.toNat = b.toNat) : boolArg b = some x := by
  cases x
  · obtain rfl : b = 0#8 := BitVec.eq_of_toNat_eq h.symm
    rfl
  · obtain rfl : b = 1#8 := BitVec.eq_of_toNat_eq h.symm
    rfl

/-- A yes or no above 1 is refused. -/
theorem boolArg_none {b : Byte} (h : 1 < b.toNat) : boolArg b = none := by
  have h0 : ¬b = 0#8 := by rintro rfl; exact absurd h (by decide)
  have h1 : ¬b = 1#8 := by rintro rfl; exact absurd h (by decide)
  exact (if_neg h0).trans (if_neg h1)

/-- A limit slot, or 255 for none, is taken (R51). -/
theorem slotArg_some {b : Byte} {x : Option (Fin 16)} (h : (x.map Fin.val).getD 255 = b.toNat) :
    slotArg b = some x := by
  cases x with
  | none =>
    obtain rfl : b = 255#8 := BitVec.eq_of_toNat_eq h.symm
    rfl
  | some l =>
    have hl : l.val = b.toNat := h
    have hb : ¬b = 255#8 := by
      rintro rfl
      have := l.isLt
      simp at hl
      omega
    have hi : indexArg 16 b = some l := indexArg_some hl
    exact (if_neg hb).trans (congrArg (Option.map some) hi)

/-- A limit slot byte that is neither a slot nor 255 is refused (R51). -/
theorem slotArg_none {b : Byte} (h : 16 ≤ b.toNat) (h' : b ≠ 255) : slotArg b = none := by
  simp only [slotArg, h', if_false, indexArg_none h, Option.map_none]

/-- The value of two bytes. -/
theorem join16_toNat (high low : Byte) : (join16 high low).toNat = low.toNat + 256 * high.toNat := by
  simp only [join16, BitVec.toNat_append, Nat.shiftLeft_eq]
  rw [← Nat.shiftLeft_eq, ← Nat.shiftLeft_add_eq_or_of_lt low.isLt, Nat.shiftLeft_eq]
  omega

/-- The value of three bytes. -/
theorem join24_toNat (high mid low : Byte) :
    (join24 high mid low).toNat = low.toNat + 256 * mid.toNat + 65536 * high.toNat := by
  have h : (high ++ mid).toNat = mid.toNat + 256 * high.toNat := join16_toNat high mid
  simp only [join24, BitVec.toNat_append] at h ⊢
  rw [h, ← Nat.shiftLeft_add_eq_or_of_lt low.isLt, Nat.shiftLeft_eq]
  omega

end Sys2Proof.Machine
end

