-- ==== Sys2Proof/Tests/Slice0.lean ====
section
/-! SUPPORT. The model's own tests, each about one step or one operation, with results taken from the spec; and, for
every statement with hypotheses, a state and operands that meet them (`witness_` and the statement's name), one for each
clause, at a boundary of its range where it has one. -/

namespace Sys2Proof.Tests

open Sys2Proof.Machine

/-! ### Helpers -/

/-- A write frame stands at an address. -/
def writing (a : Addr) (s : State) : State := { s with port := { s.port with frame := .write, pointer := a } }

/-- A read frame stands at an address. -/
def reading (a : Addr) (s : State) : State :=
  { s with port := { s.port with frame := .read, pointer := a }, pins := { s.pins with csLow := true } }

/-- CMD is written next, with these parameter bytes from p0 on. -/
def asked (bytes : List Byte) (s : State) : State :=
  writing 0x00#7 (s.withParam (Vector.ofFn fun i => bytes.getD i.val 0))

/-- Channel 0 enabled (DC, settle 16), and a list of one entry of channel 0. -/
def ready : State :=
  { State.reset with
    channels := State.reset.channels.set 0 { Channel.reset with enabled := true }
    list := { ScanList.reset with bankA := { Bank.reset with length := 1 } } }

/-- A record. -/
def record : MeasRecord :=
  { status := .ok, warnings := Warnings.none, ratioValid := true, entryIndex := 0, tag := 0, channel := 0,
    reference := 0, repeatCode := 0, seq := 1, window := 16, count := 100, ratio := 65536 }

/-- A FIFO that holds so many records. -/
def filled (n : Nat) (s : State) : State :=
  { s with fifo := { s.fifo with records := List.replicate n (.measurement record) } }

/-- The controller in a state. -/
def inState (e : EngineState) (s : State) : State := { s with ctl := { s.ctl with state := e } }

/-- The unit in a phase of a measurement of channel 0 against reference 0, with N_ref = 256 and one repetition. -/
def measuring (who : Requester) (p : Phase) (o : OscSel) (s : State) : State :=
  { s with
    conv := { s.conv with phase := p, owner := some who, chan := { Channel.reset with enabled := true }, osc := o,
                          window := some 16, wc := 8, mc := 5 }
    arb := { s.arb with holder := some who } }

/-- A scan of one entry in progress, the unit counting the sensor. -/
def scanning : State :=
  let s := measuring .scan .snsCount (.channel 0) ready
  { s with ctl := { s.ctl with state := .scanning, seq := 1, remaining := 1 }, fifo := { s.fifo with reserved := true } }

/-- A spot in progress. -/
def spotting : State :=
  let s := measuring .spot .snsCount (.channel 0) ready
  { s with spot := { s.spot with state := .running } }

/-- A record is held: the FIFO has no place beyond the reserved one. -/
def holding : State :=
  let s := filled 31 ready
  { s with ctl := { s.ctl with state := .holdRecord, held := some record }, fifo := { s.fifo with reserved := true } }

/-- A commit waits. -/
def committed (s : State) : State := { s with list := { s.list with pendingFlag := true } }

/-! ### Tests -/

/-- R185: an address with a row of its own is no REGISTER_WRITE. -/
theorem test_registerWrite_cmd_refused : (Instr.registerWrite 0x00#7 (.write 0x01#8)).wellFormed = false := by decide

/-- R186: nor is a staging byte. -/
theorem test_registerWrite_staging_refused : (Instr.registerWrite 0x08#7 (.write 0x01#8)).wellFormed = false := by decide

/-- R192: PARAM is. -/
theorem test_registerWrite_param_accepted : (Instr.registerWrite 0x20#7 (.write 0x01#8)).wellFormed = true := by decide

/-- R122: a read with an effect has a row of its own. -/
theorem test_registerWrite_latching_read_refused : (Instr.registerWrite 0x30#7 .read).wellFormed = false := by decide

/-- R165: a read of ATTN_FLAGS is a plain read, though its write has a row. -/
theorem test_registerWrite_plain_read_accepted : (Instr.registerWrite 0x12#7 .read).wellFormed = true := by decide

/-- R190: the code of START_SINGLE is no UNKNOWN_COMMAND. -/
theorem test_unknownCommand_known_refused : (Instr.unknownCommand 0x01#8).wellFormed = false := by decide

/-- R190: 0x06 names no command. -/
theorem test_unknownCommand_unknown_accepted : (Instr.unknownCommand 0x06#8).wellFormed = true := by decide

/-- 10.6: every command's code names that command. -/
theorem test_command_codes : ∀ c ∈ Command.all, commandOfCode c.code = some c := by decide

/-- The table gives no row bits. -/
theorem test_no_word_decodes : decodeTableWord 8 1 = none := rfl

/-- 08, section 8.3: the example event as its eight bytes. -/
theorem test_event_bytes :
    eventBytes (some { kind := .high, slot := 3, previous := some .inBand, entryIndex := 0, tag := 0x0A#8, seq := 22,
                       ratio := 0x014046 }) =
      #v[0x36#8, 0x00#8, 0x0A#8, 0x16#8, 0x00#8, 0x46#8, 0x40#8, 0x01#8] := by decide

/-- 01, worked figure: target code 2, one repetition, count 819 give the ratio 81,940 (R18). -/
theorem test_ratio_anchor :
    ({ ConvUnit.reset with request := { Request.zero with target := 2 }, acc := 819 } : ConvUnit).completed.ratio =
      81940 := by decide

/-- 01, worked figure: two repetitions with S = 1,637 give 81,990 (R18). -/
theorem test_ratio_two_repetitions :
    ({ ConvUnit.reset with request := { Request.zero with target := 2, repeatCode := 1 }, acc := 1637 } :
      ConvUnit).completed.ratio = 81990 := by decide

/-- A repetition of an AC channel with these halves and this imbalance limit. -/
def halves (n1 n2 : Nat) (limit : Byte) : ConvUnit :=
  { ConvUnit.reset with chan := { Channel.reset with ac := true, imbalance := limit }, n1 := n1, mc := n1 + n2 }

/-- 01: halves of 420 and 399 are imbalanced at a limit of 6 and not at 7; 409 and 410 are not at 6 (R16). -/
theorem test_imbalance :
    (halves 420 399 6).imbalanced = true ∧ (halves 420 399 7).imbalanced = false ∧
    (halves 409 410 6).imbalanced = false := by decide

/-- 06, section 6.2: the window, count and ratio bytes of the anchor result (R116). -/
theorem test_record_bytes :
    let b := measBytes kindMeasurement { record with window := 671, count := 819, ratio := 81940 }
    (b[6], b[7], b[8]) = (0x9F#8, 0x02#8, 0x00#8) ∧ (b[9], b[10], b[11], b[12]) = (0x33#8, 0x03#8, 0x00#8, 0x00#8) ∧
    (b[13], b[14], b[15]) = (0x14#8, 0x40#8, 0x01#8) := by decide

/-- The slot of the crossing of 07, section 7.8. -/
def crossing (state pending : Option Band) (n : Nat) : LimitSlot :=
  { enabled := true, low := 60000#24, high := 80000#24, hysteresis := 1000#24, persistence := 2, state := state,
    pendingDir := pending, pendingCount := n }

/-- 07, section 7.8, steps 1 and 2: a first HIGH ratio counts, a second completes ENTER_HIGH. -/
theorem test_crossing_out :
    (crossing (some .inBand) none 0).evaluate 81940 = (crossing (some .inBand) (some .high) 1, none) ∧
    (crossing (some .inBand) (some .high) 1).evaluate 81990 = (crossing (some .high) none 0, some .high) := by decide

/-- 07, section 7.8, steps 3 to 5: 79,500 is above the return bound; two ratios below it complete the return. -/
theorem test_crossing_back :
    (crossing (some .high) none 0).evaluate 79500 = (crossing (some .high) none 0, none) ∧
    (crossing (some .high) none 0).evaluate 78800 = (crossing (some .high) (some .inBand) 1, none) ∧
    (crossing (some .high) (some .inBand) 1).evaluate 78900 = (crossing (some .inBand) none 0, some .inBand) := by decide

/-- R185: a change inside the part is taken between two data bytes of one frame. FIFO_COUNT reads 0, the scan ends, and
ATTN_FLAGS (after EVENT_COUNT) shows SCAN_END. -/
theorem test_a_change_between_two_reads :
    (match exec (.registerWrite 0x10#7 .read) (reading 0x10#7
        { scanning with conv := { scanning.conv with mc := 100, wc := 15 } }) with
      | .next u => match exec .windowEnd u with
        | .next v => match exec (.registerWrite 0x12#7 .read) v with
          | .next w => w.hostReceived
          | _ => []
        | _ => []
      | _ => []) = [0x00#8, 0x00#8, 0x01#8] := by decide

/-- R173: WINDOW_MAX below 16 is taken as 16. -/
theorem test_window_max_floor : (setWindowMax 15#24 State.reset).time.windowMax = 16#24 := by decide

/-- R165: writing 1 clears a flag, writing 0 leaves it. -/
theorem test_clear_flags :
    (clearFlags 0x01#8 { State.reset with attn := { flags := 0x03#8, enables := 0 } }).attn.flags = 0x02#8 := by decide

/-- R91: a second trigger before a start is dropped and counted. -/
theorem test_trigger_overrun :
    let s := takeTrigger { scanning with ctl := { scanning.ctl with pendingTrigger := true } }
    s.ctl.skipTally = 1 ∧ s.attn.flags = 0x40#8 := by decide

/-! ### Witnesses: the queue, the resets, frames and reads -/

theorem witness_StepRunsTheFrontCommand : State.reset.pending = [] := by decide

theorem witness_HardResetReturnsEveryBlock : scanning.pins.supplyGood = true := by decide

/-- The pins. -/
def withPins (rstLow supplyGood : Bool) : State :=
  { scanning with pins := { scanning.pins with rstLow := rstLow, supplyGood := supplyGood } }

theorem witness_ReleaseTakesTheTrigLevel :
    ((withPins true true).pins.rstLow = true ∧ (withPins true true).pins.supplyGood = true) ∧
    ((withPins true false).pins.rstLow = true ∧ (withPins true false).pins.supplyGood = false) ∧
    ((withPins false false).pins.rstLow = false ∧ (withPins false false).pins.supplyGood = false) := by decide

theorem witness_ResetEngineReachesEveryBlock : WritingAt 0x00#7 (asked [] scanning) := by decide

theorem witness_FramesOpenAndClose :
    (State.reset.pins.csLow = false ∧ Released State.reset) ∧
    ((withPins true true).pins.csLow = false ∧ ¬Released (withPins true true)) ∧
    ((reading 0 ready).pins.csLow = true ∧ (reading 0 ready).port.frame ≠ .address) ∧
    ({ ready with port := { ready.port with frame := .address } } : State).port.frame = .address ∧
    (0x7F#8).toNat < 128 ∧ ¬(0x80#8).toNat < 128 ∧
    ((reading 0 ready).pins.csLow = true ∧ ((0 : Nat) = 0 ∨ (reading 0 ready).port.frame ≠ .read)) ∧
    (writing 0 ready).port.frame = .write ∧ (reading 0 ready).port.frame = .read ∧
    ∃ t, exec .hardReset ready = .next t := by
  refine ⟨by decide, by decide, by decide, by decide, by decide, by decide, by decide, by decide, by decide, ⟨_, rfl⟩⟩

theorem witness_PlainReadsChangeNothing :
    (∀ a ∈ [0x0B#7, 0x0D#7, 0x2F#7, 0x31#7, 0x3E#7, 0x7F#7], ReadingAt a (reading a ready) ∧ a ∉ ownReadRows) ∧
    (∀ a ∈ [0x48#7, 0x4F#7, 0x60#7, 0x7F#7], 0x48#7 ≤ a ∧ a ≤ 0x4F#7 ∨ 0x60#7 ≤ a) ∧
    (∀ a ∈ [0x30#7, 0x3F#7, 0x1C#7], ReadingAt a (reading a ready) ∧ (reading a ready).pins.csLow = true) := by decide

theorem witness_StatusRegistersShowTheirFields : ∀ a ∈ [0x03#7, 0x04#7, 0x05#7], WritingAt a (writing a scanning) := by
  decide

/-- RESULT byte 15 is read next, the head latched. -/
def latched (s : State) : State := reading 0x3F#7 { s with fifo := { s.fifo with latch := s.fifo.records.head?, consumed := false } }

theorem witness_ResultWindowLatchesAndPops :
    ReadingAt 0x30#7 (reading 0x30#7 (filled 32 ready)) ∧
    (ReadingAt 0x3F#7 (reading 0x3F#7 ready) ∧ (reading 0x3F#7 ready).fifo.consumed = true) ∧
    (∀ s ∈ [latched (filled 1 ready), latched (filled 32 (inState .holdStart ready)), latched holding],
      ReadingAt 0x3F#7 s ∧ s.fifo.consumed = false) ∧
    (latched (filled 1 ready)).ctl.state = .idle ∧
    (let s := latched (filled 32 (inState .holdStart ready))
     s.ctl.state = .holdStart ∧ ReservationLaw s ∧ s.fifo.records ≠ []) ∧
    (latched holding).ctl.state = .holdRecord := by decide

theorem witness_OtherWindowsLatch :
    (∀ a ∈ [0x40#7, 0x50#7, 0x0C#7, 0x0E#7, 0x1A#7, 0x1D#7], ReadingAt a (reading a scanning)) ∧
    (ReadingAt 0x47#7 (reading 0x47#7 ready) ∧ (reading 0x47#7 ready).events.consumed = true) ∧
    (let s := reading 0x47#7 { ready with events := { ready.events with consumed := false } }
     ReadingAt 0x47#7 s ∧ s.events.consumed = false) := by decide

/-! ### Witnesses: scan control -/

theorem witness_StartSingleStartsItsScan :
    let s := asked [] (filled 31 ready)
    WritingAt 0x00#7 s ∧ s.ctl.state = .idle ∧ s.list.activeBank.length ≠ 0 ∧ s.fifo.records.length < 32 := by decide

/-- The FIFO full and SCAN_CTRL's policy. -/
def fullWith (discard : Bool) : State :=
  let s := asked [] (filled 32 ready)
  { s with ctl := { s.ctl with scanCtrl := { s.ctl.scanCtrl with discard := discard } } }

theorem witness_StartTimedStartsTimerAndScan :
    (let s := asked [] (filled 31 ready)
     WritingAt 0x00#7 s ∧ s.ctl.state = .idle ∧ s.list.activeBank.length ≠ 0 ∧ s.fifo.records.length < 32) ∧
    ∀ d ∈ [true, false],
      WritingAt 0x00#7 (fullWith d) ∧ (fullWith d).ctl.state = .idle ∧ (fullWith d).list.activeBank.length ≠ 0 ∧
      ¬(fullWith d).fifo.records.length < 32 ∧ (fullWith d).ctl.scanCtrl.discard = d := by decide

theorem witness_StartCommandsRefuse :
    (WritingAt 0x00#7 (asked [] scanning) ∧ (asked [] scanning).ctl.state ≠ .idle) ∧
    (WritingAt 0x00#7 (asked [] State.reset) ∧ (asked [] State.reset).ctl.state = .idle ∧
      (asked [] State.reset).list.activeBank.length = 0) ∧
    (WritingAt 0x00#7 (fullWith false) ∧ (fullWith false).ctl.state = .idle ∧
      (fullWith false).list.activeBank.length ≠ 0 ∧ (fullWith false).fifo.records.length = 32) := by decide

theorem witness_ArmTriggerArms :
    WritingAt 0x00#7 (asked [] ready) ∧ (asked [] ready).ctl.state = .idle ∧
      (asked [] ready).list.activeBank.length ≠ 0 := by decide

theorem witness_StopActsByState :
    (∀ e ∈ [EngineState.idle, .armed, .holdStart],
      WritingAt 0x00#7 (asked [] (inState e ready)) ∧ (asked [] (inState e ready)).ctl.state = e) ∧
    (WritingAt 0x00#7 (asked [] scanning) ∧ (asked [] scanning).ctl.state = .scanning) ∧
    (WritingAt 0x00#7 (asked [] holding) ∧ (asked [] holding).ctl.state = .holdRecord) := by decide

theorem witness_AbortActsByState :
    (∀ e ∈ [EngineState.idle, .armed, .holdStart],
      WritingAt 0x00#7 (asked [] (inState e ready)) ∧ (asked [] (inState e ready)).ctl.state = e) ∧
    (WritingAt 0x00#7 (asked [] scanning) ∧ (asked [] scanning).ctl.state = .scanning ∧
      (asked [] scanning).conv.owner = some .scan) ∧
    (WritingAt 0x00#7 (asked [] holding) ∧ (asked [] holding).ctl.state = .holdRecord ∧
      (asked [] holding).conv.owner ≠ some .scan) := by decide

/-! ### Witnesses: the scan list, the tables, the cache -/

theorem witness_ListEditsReachTheEditBank :
    (WritingAt 0x00#7 (asked [] (committed scanning)) ∧ (asked [] (committed scanning)).list.pendingFlag = true) ∧
    (∀ b ∈ [[], [33], [32], [31, 15, 3, 12, 3, 1, 15, 7], [31, 15, 3, 12, 3, 1, 255, 7], [31, 15, 3, 12, 3, 1, 16]],
      WritingAt 0x00#7 (asked b ready) ∧ (asked b ready).list.pendingFlag = false) ∧
    32 < ((asked [33] ready).p 0).toNat ∧
    (32 : Fin 33).val = ((asked [32] ready).p 0).toNat ∧
    (let s := asked [31, 15, 3, 12, 3, 1, 16] ready
     firstBad [(s.p 0).toNat < 32, (s.p 1).toNat < 16, (s.p 2).toNat < 4, (s.p 3).toNat < 13, (s.p 4).toNat < 4,
       (s.p 5).toNat ≤ 1, (s.p 6).toNat < 16 ∨ s.p 6 = 255] = some 7) ∧
    (let s := asked [31, 15, 3, 12, 3, 1, 15, 7] ready
     let e : Entry := { channel := 15, reference := 3, target := 12, repeatCode := 3, fresh := true, slot := some 15,
                        tag := 7 }
     (31 : Fin 32).val = (s.p 0).toNat ∧ e.channel.val = (s.p 1).toNat ∧ e.reference.val = (s.p 2).toNat ∧
       e.target.val = (s.p 3).toNat ∧ e.repeatCode.val = (s.p 4).toNat ∧ e.fresh.toNat = (s.p 5).toNat ∧
       (e.slot.map Fin.val).getD 255 = (s.p 6).toNat ∧ e.tag = s.p 7) ∧
    (((none : Option (Fin 16)).map Fin.val).getD 255 =
      ((asked [31, 15, 3, 12, 3, 1, 255, 7] ready).p 6).toNat) := by decide

/-- The edit bank of one entry. -/
def edited (s : State) : State := { s with list := { s.list with bankB := { s.list.bankB with length := 1 } } }

theorem witness_CommitAndSwap :
    (WritingAt 0x00#7 (asked [] ready) ∧ (asked [] ready).list.editBank.length = 0) ∧
    (let s := asked [] (committed (edited scanning))
     WritingAt 0x00#7 s ∧ s.list.editBank.length ≠ 0 ∧ s.list.pendingFlag = true) ∧
    (∀ s ∈ [asked [] (edited ready), asked [] (edited scanning)],
      WritingAt 0x00#7 s ∧ s.list.editBank.length ≠ 0 ∧ s.list.pendingFlag = false) ∧
    (edited ready).ctl.state = .idle ∧ (edited scanning).ctl.state ≠ .idle ∧
    (ready.ctl.state = .idle ∧ ready.list.pendingFlag = false) ∧
    ((committed (edited ready)).ctl.state = .idle ∧ (committed (edited ready)).list.pendingFlag = true) := by decide

theorem witness_TableWritesReplaceTheirRecord :
    (let s := asked [15, 1, 1, 0, 0, 0] ready
     WritingAt 0x00#7 s ∧ firstBad [(s.p 0).toNat < 16, (s.p 1).toNat ≤ 1, (s.p 2).toNat ≤ 1, true,
       (s.p 4).toNat + 256 * (s.p 5).toNat ≠ 0] = some 5) ∧
    (let s := asked [15, 1, 0, 255, 0, 1, 6] ready
     let c : Channel := { enabled := true, ac := false, settle := 255, minCount := 256, imbalance := 6 }
     WritingAt 0x00#7 s ∧ (15 : Fin 16).val = (s.p 0).toNat ∧ c.enabled.toNat = (s.p 1).toNat ∧
       c.ac.toNat = (s.p 2).toNat ∧ c.settle = s.p 3 ∧ c.minCount.toNat = (s.p 4).toNat + 256 * (s.p 5).toNat ∧
       c.minCount ≠ 0 ∧ c.imbalance = s.p 6) ∧
    (WritingAt 0x00#7 (asked [4] ready) ∧ 3 < ((asked [4] ready).p 0).toNat) ∧
    (WritingAt 0x00#7 (asked [3, 9] ready) ∧ (3 : Fin 4).val = ((asked [3, 9] ready).p 0).toNat) := by decide

/-- One window in the cache, of reference 3 and target code 12. -/
def cached (age : Nat) (s : State) : State :=
  { s with cache := { s.cache with slots := [{ reference := 3, target := 12, window := 671, age := age }] } }

theorem witness_ReadCommandsAnswerInParam :
    (∀ b ∈ [[16], [15], [4], [3], [8], [0], [7], [0, 0, 0, 0, 0, 0, 0, 0, 2], [32], [31, 0, 0, 0, 0, 0, 0, 0, 1]],
      WritingAt 0x00#7 (asked b (cached 0 ready))) ∧
    15 < ((asked [16] ready).p 0).toNat ∧ (15 : Fin 16).val = ((asked [15] ready).p 0).toNat ∧
    3 < ((asked [4] ready).p 0).toNat ∧ (3 : Fin 4).val = ((asked [3] ready).p 0).toNat ∧
    7 < ((asked [8] ready).p 0).toNat ∧
    ((0 : Fin 8).val = ((asked [0] ready).p 0).toNat ∧
      (asked [0] (cached 0 ready)).cache.slots[(0 : Fin 8).val]? =
        some { reference := 3, target := 12, window := 671, age := 0 }) ∧
    ((7 : Fin 8).val = ((asked [7] ready).p 0).toNat ∧
      (asked [7] (cached 0 ready)).cache.slots[(7 : Fin 8).val]? = none) ∧
    1 < ((asked [0, 0, 0, 0, 0, 0, 0, 0, 2] ready).p 8).toNat ∧
    (((asked [32] ready).p 8).toNat ≤ 1 ∧ 31 < ((asked [32] ready).p 0).toNat) ∧
    (let s := asked [31, 0, 0, 0, 0, 0, 0, 0, 1] ready
     true.toNat = (s.p 8).toNat ∧ (31 : Fin 32).val = (s.p 0).toNat) := by decide

theorem witness_ReadAnswersAreWriteArguments :
    Channel.reset.minCount ≠ 0 ∧ (crossing (some .inBand) (some .high) 1).Law := by decide

theorem witness_CacheCommandsStoreAndInvalidate :
    (let s := asked [3, 12, 15, 0, 0] ready
     let w := (s.p 2).toNat + 256 * (s.p 3).toNat + 65536 * (s.p 4).toNat
     WritingAt 0x00#7 s ∧
       firstBad [(s.p 0).toNat < 4, (s.p 1).toNat < 13, 16 ≤ w ∧ w ≤ s.time.windowMax.toNat] = some 3) ∧
    ∀ b ∈ [[3, 12, 16, 0, 0], [3, 12, 255, 255, 255]],
      let s := asked b (cached 0 ready)
      let w := (s.p 2).toNat + 256 * (s.p 3).toNat + 65536 * (s.p 4).toNat
      WritingAt 0x00#7 s ∧ (3 : Fin 4).val = (s.p 0).toNat ∧ (12 : Fin 13).val = (s.p 1).toNat ∧ 16 ≤ w ∧
        w ≤ s.time.windowMax.toNat ∧ CacheLaw s := by decide

/-! ### Witnesses: spots, FIFO, limits -/

/-- A spot waits behind a scan's measurement. -/
def waiting : State :=
  { scanning with spot := { scanning.spot with state := .waiting }, arb := { scanning.arb with spotReq := some Request.zero } }

theorem witness_SpotIsRefusedOrRequested :
    (WritingAt 0x00#7 (asked [] waiting) ∧ (asked [] waiting).spot.state = .waiting) ∧
    (WritingAt 0x00#7 (asked [] spotting) ∧ (asked [] spotting).spot.state = .running) ∧
    (let s := asked [15, 3, 12, 4] ready
     WritingAt 0x00#7 s ∧ s.spot.state = .none ∧ firstBad [(s.p 0).toNat < 16, (s.p 1).toNat < 4,
       (s.p 2).toNat < 13, (s.p 3).toNat < 4, (s.p 4).toNat ≤ 1] = some 4) ∧
    (∀ p ∈ [((15 : Fin 16), ready), (0, scanning), (0, ready)],
      let s := asked [BitVec.ofNat 8 p.1.val, 3, 12, 3, 1] p.2
      let q : Request := { channel := p.1, reference := 3, target := 12, repeatCode := 3, fresh := true }
      WritingAt 0x00#7 s ∧ s.spot.state = .none ∧ q.channel.val = (s.p 0).toNat ∧ q.reference.val = (s.p 1).toNat ∧
        q.target.val = (s.p 2).toNat ∧ q.repeatCode.val = (s.p 3).toNat ∧ q.fresh.toNat = (s.p 4).toNat) ∧
    ready.channels[(15 : Fin 16)].enabled = false ∧
    (scanning.channels[(0 : Fin 16)].enabled = true ∧ scanning.arb.holder ≠ none) ∧
    (ready.channels[(0 : Fin 16)].enabled = true ∧ ready.arb.holder = none ∧ ready.arb.scanReq = none) := by decide

theorem witness_CancelSpotActsByState :
    (WritingAt 0x00#7 (asked [] ready) ∧ (asked [] ready).spot.state = .none) ∧
    (WritingAt 0x00#7 (asked [] waiting) ∧ (asked [] waiting).spot.state = .waiting) ∧
    (WritingAt 0x00#7 (asked [] spotting) ∧ (asked [] spotting).spot.state = .running ∧
      (asked [] spotting).conv.owner = some .spot) := by decide

theorem witness_FlushEmptiesTheFifo :
    (WritingAt 0x00#7 (asked [] (filled 32 ready)) ∧ (asked [] (filled 32 ready)).ctl.state = .idle) ∧
    (WritingAt 0x00#7 (asked [] (filled 32 (inState .holdStart ready))) ∧
      (asked [] (filled 32 (inState .holdStart ready))).ctl.state = .holdStart) ∧
    (WritingAt 0x00#7 (asked [] holding) ∧ (asked [] holding).ctl.state = .holdRecord) := by decide

theorem witness_WriteSlotReplacesTheSlot :
    (let s := asked [15, 1, 1, 0, 0, 0, 0, 0, 0, 0, 0, 15] ready
     let low := (s.p 2).toNat + 256 * (s.p 3).toNat + 65536 * (s.p 4).toNat
     let high := (s.p 5).toNat + 256 * (s.p 6).toNat + 65536 * (s.p 7).toNat
     WritingAt 0x00#7 s ∧ firstBad [(s.p 0).toNat < 16, (s.p 1).toNat ≤ 1, true, true, true,
       1 ≤ (s.p 11).toNat ∧ (s.p 11).toNat ≤ 15, low ≤ high] = some 7) ∧
    ∀ n ∈ [1, 15],
      let s := asked [15, 1, 2, 1, 0, 2, 1, 0, 255, 255, 255, n] ready
      WritingAt 0x00#7 s ∧ (15 : Fin 16).val = (s.p 0).toNat ∧ true.toNat = (s.p 1).toNat ∧ 1 ≤ (s.p 11).toNat ∧
        (s.p 11).toNat ≤ 15 ∧
        (s.p 2).toNat + 256 * (s.p 3).toNat + 65536 * (s.p 4).toNat ≤
          (s.p 5).toNat + 256 * (s.p 6).toNat + 65536 * (s.p 7).toNat := by decide

/-- The bounds of the crossing slot: 60,000, 80,000, 61,000 and 79,000. A slot whose return bound lies beyond its band
meets the last clauses. -/
theorem witness_CandidateFollowsTheState :
    (59999 < (crossing none none 0).low.toNat ∧ (crossing none none 0).high.toNat < 80001 ∧
      (crossing none none 0).low.toNat ≤ 60000 ∧ 80000 ≤ (crossing none none 0).high.toNat) ∧
    (min ((crossing (some .low) none 0).low.toNat + (crossing (some .low) none 0).hysteresis.toNat) 16777215 ≤ 61000 ∧
      60999 < min ((crossing (some .low) none 0).low.toNat + (crossing (some .low) none 0).hysteresis.toNat) 16777215) ∧
    (79000 ≤ (crossing (some .high) none 0).high.toNat - (crossing (some .high) none 0).hysteresis.toNat ∧
      (crossing (some .high) none 0).high.toNat - (crossing (some .high) none 0).hysteresis.toNat < 79001) ∧
    (let l := { crossing (some .low) none 0 with hysteresis := 20001#24 }
     l.high.toNat < min (l.low.toNat + l.hysteresis.toNat) 16777215) ∧
    (let l := { crossing (some .high) none 0 with hysteresis := 20001#24 }
     l.high.toNat - l.hysteresis.toNat < l.low.toNat) := by decide

theorem witness_EvaluationCountsTowardPersistence :
    (let l := crossing (some .high) none 0; l.state = some (l.candidate 79500)) ∧
    (let l := crossing none none 0; l.state = none ∧ l.candidate 60000 = .inBand) ∧
    (let l := crossing (some .inBand) none 0
     l.state ≠ some (l.candidate 81940) ∧ ¬(l.state = none ∧ l.candidate 81940 = .inBand) ∧ 1 < l.persistence) ∧
    (let l := crossing (some .inBand) (some .high) 1
     l.pendingDir = some (l.candidate 81990) ∧ l.persistence ≤ l.pendingCount + 1) := by decide

/-- The entry in hand names slot 3, which is that of the crossing. -/
def watching (l : LimitSlot) (s : State) : State :=
  { s with limits := s.limits.set 3 l
           list := { s.list with bankA := { s.list.bankA with
             entries := s.list.bankA.entries.set 0 { Entry.reset with slot := some 3 } } } }

theorem witness_RecordIsOfferedToItsSlot :
    ({ record with status := .refTimeout } : MeasRecord).status ≠ .ok ∧
    (record.status = .ok ∧ scanning.list.activeBank.entries[scanning.ctl.entryIndex].slot = none) ∧
    (∀ l ∈ [LimitSlot.reset, crossing none none 0, crossing (some .inBand) (some .high) 1],
      let s := watching l scanning
      s.list.activeBank.entries[s.ctl.entryIndex].slot = some 3 ∧ s.limits[(3 : Fin 16)] = l) ∧
    LimitSlot.reset.enabled = false ∧
    ((crossing none none 0).evaluate record.ratio).2 = none ∧
    (let r := { record with ratio := 81990 }
     ((crossing (some .inBand) (some .high) 1).evaluate r.ratio).2 = some .high) := by decide

/-! ### Witnesses: the time base, register writes, INT_N, triggers -/

theorem witness_SetClockSelectsTheSource :
    (WritingAt 0x00#7 (asked [] scanning) ∧ (asked [] scanning).ctl.state ≠ .idle) ∧
    (WritingAt 0x00#7 (asked [] spotting) ∧ (asked [] spotting).ctl.state = .idle ∧
      (asked [] spotting).spot.state ≠ .none) ∧
    (let s := asked [] (measuring .scan .snsCount (.channel 0) ready)
     WritingAt 0x00#7 s ∧ s.ctl.state = .idle ∧ s.spot.state = .none ∧ s.conv.phase ≠ .idle) ∧
    (∀ b ∈ [[1], [2]],
      let s := asked b ready
      WritingAt 0x00#7 s ∧ s.ctl.state = .idle ∧ s.spot.state = .none ∧ s.conv.phase = .idle) ∧
    1 < ((asked [2] ready).p 0).toNat ∧ ((asked [1] ready).p 0).toNat ≤ 1 := by decide

theorem witness_StagedRegistersTakeEffectWhole :
    ∀ a ∈ [0x08#7, 0x0A#7, 0x16#7, 0x17#7, 0x09#7, 0x0B#7, 0x18#7], WritingAt a (writing a scanning) := by decide

theorem witness_OneByteRegistersTakeTheirByte :
    ∀ a ∈ [0x06#7, 0x07#7, 0x14#7, 0x12#7, 0x13#7], WritingAt a (writing a scanning) := by decide

theorem witness_OtherWritesReachParamOrNothing :
    (∀ i ∈ [(0 : Fin 16), 15], WritingAt (0x20#7 + BitVec.ofNat 7 i) (writing (0x20#7 + BitVec.ofNat 7 i) ready)) ∧
    (∀ a ∈ [0x01#7, 0x1F#7, 0x30#7, 0x7F#7],
      WritingAt a (writing a ready) ∧ a ∉ ownWriteRows ∧ ¬(0x20#7 ≤ a ∧ a ≤ 0x2F#7)) ∧
    (WritingAt 0x00#7 (asked [] ready) ∧ ∀ v ∈ [0x00#8, 0x06#8, 0xFF#8],
      v.toNat ∉ [0x01, 0x02, 0x03, 0x04, 0x05, 0x0F, 0x10, 0x11, 0x12, 0x13, 0x20, 0x21, 0x22, 0x23, 0x28, 0x29,
                 0x2A, 0x30, 0x31, 0x38, 0x40, 0x41, 0x48]) := by decide

/-- A flag set and enabled. -/
def attending : State := asked [] { scanning with attn := { flags := 0x81#8, enables := 0x80#8 } }

theorem witness_IntNFollowsFlagsAndEnables :
    (∃ i < 8, attending.attn.flags.getLsbD i = true ∧ attending.attn.enables.getLsbD i = true) ∧
    WritingAt 0x00#7 attending := by decide

theorem witness_IntNFollowsFlagsAndEnables_resets :
    (∃ t, exec .hardReset attending = .next t) ∧ (∃ t, exec .resetEngine attending = .next t) := ⟨⟨_, rfl⟩, ⟨_, rfl⟩⟩

/-- Armed for rising edges of TRIG, or of the timer. -/
def armedFor (m : Mode) (s : State) : State := { s with ctl := { s.ctl with state := .armed, mode := m } }

theorem witness_TrigEdgeTriggers :
    ready.pins.trigHigh = false ∧
    (ready.pins.trigHigh ≠ true ∧ ¬Released (withPins true true)) ∧ (withPins true true).pins.trigHigh ≠ true ∧
    (∀ s ∈ [armedFor .triggered (filled 31 ready), armedFor .triggered (filled 32 ready)],
      s.pins.trigHigh ≠ true ∧ Released s ∧ s.ctl.mode = .triggered ∧ s.ctl.snapshot.falling = !true ∧
      s.ctl.state = .armed) ∧
    (armedFor .triggered (filled 31 ready)).fifo.records.length < 32 ∧
    32 ≤ (armedFor .triggered (filled 32 ready)).fifo.records.length ∧
    (scanning.pins.trigHigh ≠ true ∧ Released scanning ∧
      ¬(scanning.ctl.mode = .triggered ∧ scanning.ctl.snapshot.falling = !true)) := by decide

/-- The scan timer runs. -/
def timing (prescaler remaining : Nat) (s : State) : State :=
  { s with time := { s.time with timerRunning := true, prescaler := prescaler, timerRemaining := remaining } }

theorem witness_ScanTimerCountsAndExpires :
    ready.time.timerRunning = false ∧
    ((timing 30 1 scanning).time.timerRunning = true ∧ (timing 30 1 scanning).time.prescaler + 1 < 32) ∧
    ((timing 31 2 scanning).time.timerRunning = true ∧ 32 ≤ (timing 31 2 scanning).time.prescaler + 1 ∧
      1 < (timing 31 2 scanning).time.timerRemaining) ∧
    (∀ s ∈ [timing 31 1 (armedFor .timed (filled 31 ready)), timing 31 1 (armedFor .timed (filled 32 ready))],
      s.time.timerRunning = true ∧ 32 ≤ s.time.prescaler + 1 ∧ s.time.timerRemaining ≤ 1 ∧ s.ctl.mode = .timed ∧
      s.ctl.state = .armed) ∧
    (timing 31 1 (armedFor .timed (filled 31 ready))).fifo.records.length < 32 ∧
    32 ≤ (timing 31 1 (armedFor .timed (filled 32 ready))).fifo.records.length ∧
    ((timing 31 1 scanning).time.timerRunning = true ∧ 32 ≤ (timing 31 1 scanning).time.prescaler + 1 ∧
      (timing 31 1 scanning).time.timerRemaining ≤ 1 ∧ (timing 31 1 scanning).ctl.mode ≠ .timed) := by decide

/-! ### Witnesses: the arbiter and the measurement -/

/-- A spot's request waits, and a scan's too where wanted, with the unit free. -/
def requested (scan spot : Option Request) (last : Requester) (s : State) : State :=
  { s with arb := { s.arb with scanReq := scan, spotReq := spot, lastGrant := last } }

/-- A request of channel 0, reference 3 and target code 12. -/
def request : Request := { channel := 0, reference := 3, target := 12, repeatCode := 0, fresh := false }

theorem witness_GrantChoosesAndBegins :
    scanning.arb.holder ≠ none ∧ (ready.arb.scanReq = none ∧ ready.arb.spotReq = none) ∧
    (Chosen (requested (some request) (some request) .spot ready) .scan request ∧
      Chosen (requested (some request) none .scan ready) .scan request ∧
      Chosen (requested (some request) (some request) .scan ready) .spot request ∧
      ready.channels[request.channel].enabled = true) ∧
    ({ request with fresh := true } : Request).fresh = true ∧ request.fresh = false ∧
    (∀ e ∈ (cached 4 ready).cache.slots, e.reference = request.reference → e.target = request.target →
      (cached 4 ready).cache.maxAge ≤ e.age) ∧
    (∃ e ∈ (cached 3 ready).cache.slots, e.reference = request.reference ∧ e.target = request.target ∧
      e.age < (cached 3 ready).cache.maxAge) ∧ CacheLaw (cached 3 ready) := by decide

/-- Channel 15, which is disabled. -/
def disabledRequest : Request := { request with channel := 15 }

theorem witness_GrantOfADisabledChannel :
    ready.channels[disabledRequest.channel].enabled = false ∧
    Chosen (requested none (some disabledRequest) .scan ready) .spot disabledRequest ∧
    (let s := requested (some disabledRequest) none .scan (inState .scanning ready)
     s.channels[disabledRequest.channel].enabled = false ∧ Chosen s .scan disabledRequest ∧
       s.ctl.state = .scanning) := by decide

/-- The unit's counters. -/
def counted (mc wc : Nat) (s : State) : State := { s with conv := { s.conv with mc := mc, wc := wc } }

/-- The unit's channel is AC. -/
def onAc (s : State) : State := { s with conv := { s.conv with chan := { s.conv.chan with ac := true } } }

/-- A scan-owned measurement in a phase. -/
def inPhase (p : Phase) : State := measuring .scan p (.channel 0) ready

theorem witness_PhasesCountPeriodsAndEdges :
    ready.conv.phase = .idle ∧ (inPhase .refSettle).conv.phase = .refSettle ∧
    (inPhase (.refCount false)).conv.phase = .refCount false ∧ (inPhase (.refCount true)).conv.phase = .refCount true ∧
    (inPhase .snsSettle).conv.phase = .snsSettle ∧
    ((inPhase .snsCount).conv.phase = .snsCount ∧ (inPhase .snsCount).conv.chan.ac = false) ∧
    ((onAc (inPhase .snsCount)).conv.phase = .snsCount ∧ (onAc (inPhase .snsCount)).conv.chan.ac = true) ∧
    (inPhase .snsCountB).conv.phase = .snsCountB := by decide

theorem witness_PhasesFollowOneAnother :
    (let s := counted 0 15 (inPhase .refSettle); s.conv.phase = .refSettle ∧ s.conv.ref.settle.toNat ≤ s.conv.wc + 1) ∧
    (inPhase (.refCount false)).conv.phase = .refCount false ∧
    (let s := counted 0 15 (inPhase .snsSettle)
     s.conv.phase = .snsSettle ∧ s.conv.chan.settle.toNat ≤ s.conv.wc + 1) ∧
    (let s := onAc (counted 3 7 (inPhase .snsCount))
     s.conv.phase = .snsCount ∧ s.conv.chan.ac = true ∧ s.conv.window.getD 0 / 2 ≤ s.conv.wc + 1) := by decide

theorem witness_ReferenceCompletionSetsTheWindow :
    (∀ w ∈ [15, 16],
      let s := counted 255 w (inPhase (.refCount true))
      s.conv.phase = .refCount true ∧ 256 * 2 ^ s.conv.request.target.val ≤ s.conv.mc + 1 ∧
      s.references[s.conv.request.reference].generation = s.conv.ref.generation) ∧
    (let s := counted 255 16 (inPhase (.refCount true))
     let u := { s with references := s.references.set 0 { settle := 16, generation := 1 } }
     16 ≤ u.conv.wc ∧ u.references[u.conv.request.reference].generation ≠ u.conv.ref.generation) := by decide

theorem witness_FaultsEndTheMeasurement :
    (∀ o ∈ [true, false],
      let s := counted 0 16777215 (inPhase (.refCount o))
      let u := { s with conv := { s.conv with window := none } }
      u.conv.phase = .refCount o ∧ (u.conv.window = none ∧ (o = true → u.conv.mc < u.conv.request.nRef)) ∧
        u.conv.windowLimit.toNat < u.conv.wc + 1) ∧
    (∀ p ∈ [Phase.snsCount, .snsCountB],
      let s := counted 16777215 3 (inPhase p)
      (s.conv.phase = .snsCount ∨ s.conv.phase = .snsCountB) ∧ 16777215 < s.conv.mc + 1) := by decide

theorem witness_WindowEndChecksAndCounts :
    (∀ n ∈ [0, 1],
      let s := counted n 15 (inPhase .snsCount)
      (s.conv.phase = .snsCount ∧ s.conv.chan.ac = false ∨ s.conv.phase = .snsCountB) ∧
        s.conv.window.getD 0 ≤ s.conv.wc + 1) ∧
    (counted 0 15 (inPhase .snsCount)).conv.mc < (counted 0 15 (inPhase .snsCount)).conv.chan.minCount.toNat ∧
    (let s := onAc (counted 1 15 (inPhase .snsCountB))
     (s.conv.phase = .snsCount ∧ s.conv.chan.ac = false ∨ s.conv.phase = .snsCountB) ∧
       s.conv.window.getD 0 ≤ s.conv.wc + 1 ∧ s.conv.chan.minCount.toNat ≤ s.conv.mc ∧
       2 ^ s.conv.request.repeatCode.val ≤ s.conv.repIndex) ∧
    (let s := counted 1 15 (inPhase .snsCount)
     let u := { s with conv := { s.conv with request := { s.conv.request with repeatCode := 3 }, repIndex := 7 } }
     u.conv.chan.minCount.toNat ≤ u.conv.mc ∧ u.conv.repIndex < 2 ^ u.conv.request.repeatCode.val ∧
       u.conv.window.getD 0 ≤ u.conv.wc + 1) := by decide

theorem witness_SpotTakesItsResult : spotting.conv.owner = some .spot := by decide

/-- A list of two entries of channel 0. -/
def ofTwo (s : State) : State := { s with list := { s.list with bankA := { s.list.bankA with length := 2 } } }

theorem witness_ScanTakesItsResult :
    ∀ s ∈ [scanning, ofTwo scanning, filled 31 scanning], s.conv.owner = some .scan ∧ s.ctl.state = .scanning := by decide

theorem witness_HeldRecordIsOfferedAgain :
    (∀ s ∈ [holding, filled 30 holding], s.ctl.state = .holdRecord ∧ s.ctl.held = some record) ∧
    (let s := filled 30 holding; s.fifo.records.length + s.fifo.reserved.toNat ≤ 31) ∧
    31 < holding.fifo.records.length + holding.fifo.reserved.toNat := by decide

/-- A latched trigger. -/
def triggered (s : State) : State := { s with ctl := { s.ctl with pendingTrigger := true } }

theorem witness_WaitingTriggersStartScans :
    (∀ n ∈ [31, 32], (filled n (inState .holdStart ready)).ctl.state = .holdStart ∧
      (triggered (filled n (inState .armed ready))).ctl.state = .armed ∧
      (triggered (filled n (inState .armed ready))).ctl.pendingTrigger = true) ∧
    (filled 31 ready).fifo.records.length < 32 ∧ 32 ≤ (filled 32 ready).fifo.records.length := by decide

/-- A list of entries of channel 0, which is disabled, and SCAN_CTRL's policy. -/
def disabledList (n : Fin 33) (discard : Bool) : State :=
  asked [] { State.reset with
    list := { ScanList.reset with bankA := { Bank.reset with length := n } }
    ctl := { State.reset.ctl with scanCtrl := { ScanCtrl.reset with discard := discard } } }

theorem witness_DisabledEntriesAreRecordedAtOnce :
    ready.channels[ready.entryInHand.channel].enabled = true ∧
    State.reset.channels[State.reset.entryInHand.channel].enabled = false ∧
    (∀ n ∈ [(1 : Fin 33), 31, 32], ∀ d ∈ [true, false],
      let s := disabledList n d
      WritingAt 0x00#7 s ∧ s.ctl.state = .idle ∧ s.list.pendingFlag = false ∧ s.list.activeBank.length ≠ 0 ∧
      s.fifo.records = [] ∧ s.ctl.scanCtrl.discard = d ∧
      ∀ i : Fin 32, i.val < s.list.activeBank.length.val →
        s.channels[s.list.activeBank.entries[i].channel].enabled = false) ∧
    (disabledList 31 true).fifo.records.length + (disabledList 31 true).list.activeBank.length.val ≤ 31 ∧
    (disabledList 32 true).list.activeBank.length.val = 32 := by decide

/-- R78, R87, 02: a disabled entry between two enabled ones is recorded in the step in which the walk reaches it, and
the next is requested. -/
theorem test_walk_passes_a_disabled_entry :
    let entries := (Bank.reset.entries.set 1 { Entry.reset with channel := 1 })
    let s := { scanning with
      list := { ScanList.reset with bankA := { entries := entries, length := 3 } }
      ctl := { scanning.ctl with mode := .timed } }
    let t := finish { status := .ok, warnings := Warnings.none, ratioValid := true, window := 16, count := 100,
                      ratio := 65536 } s
    t.ctl.entryIndex = 2 ∧ t.ctl.measured = 2 ∧ t.fifo.records.length = 2 ∧ t.arb.holder = some .scan := by decide

/-! ### Witnesses: what every step keeps -/

/-- A scan in progress with an oscillator edge waiting. -/
def edgeWaits : State := { scanning with pending := [.oscillatorEdge] }

theorem witness_ActiveBankStandsDuringAScan :
    ∃ t, ScanInProgress edgeWaits ∧ step edgeWaits = .next t ∧ ScanInProgress t ∧ t.ctl.seq = edgeWaits.ctl.seq :=
  ⟨_, by decide, rfl, by decide, by decide⟩

/-- The step of the state below is one of a scan in progress. -/
theorem witness_a_step : ∃ t, step edgeWaits = .next t := ⟨_, rfl⟩

/-- An active bank of one entry with the walk at it, and a commit that waits with an edit bank of one. -/
theorem witness_ActiveBankStandsDuringAScan_list :
    let s := committed (edited edgeWaits)
    ListLaw s ∧ ScanInProgress s ∧ s.list.pendingFlag = true := by decide

theorem witness_StepKeepsUnitLaws : HolderMatchesUnit edgeWaits ∧ OscillatorFollowsPhase edgeWaits :=
  ⟨by decide, rfl, rfl, rfl⟩

theorem witness_StepKeepsReservationLaw : ReservationLaw edgeWaits := by decide

theorem witness_StepKeepsCacheLaw : CacheLaw (cached 15 edgeWaits) := by decide

theorem witness_StepKeepsSlotLaw : SlotLaw (watching (crossing (some .inBand) (some .high) 1) edgeWaits) := by decide

theorem witness_StepKeepsIdleLaws :
    (NoCommitWaitsInIdle (timing 31 1 edgeWaits) ∧ TimerLaw (timing 31 1 edgeWaits)) ∧
    (edgeWaits.pins.csLow = false ∧ FrameLaw edgeWaits) ∧ FrameLaw (reading 0x30#7 edgeWaits) := by decide

theorem witness_StepKeepsLatchesOnHeads :
    let s := { filled 1 edgeWaits with fifo := { (filled 1 edgeWaits).fifo with
      latch := some (.measurement record), consumed := false } }
    EventQueueLaw s ∧ ResultLatchLaw s := by decide

theorem witness_StepKeepsTallyLaw : ScanInProgress edgeWaits ∧ TallyLaw edgeWaits := by decide

theorem witness_StepKeepsRanges : RegisterLaw edgeWaits ∧ CounterLaw edgeWaits :=
  ⟨by decide, by decide, by decide, by decide, by decide, ⟨by decide, by decide, by decide⟩, by decide⟩

/-- A measurement in REF_COUNT, with no window in hand, meets the law of the phases. -/
theorem witness_StepKeepsRanges_reference :
    let s := counted 255 16777215 (inPhase (.refCount true))
    PhaseLaw { s.conv with window := none } := ⟨rfl, by decide⟩

theorem witness_SpotAndScanRequestsStandWhereTheySay :
    HolderMatchesUnit edgeWaits ∧ ControllerLaw edgeWaits ∧ ScanRequestLaw edgeWaits ∧ SpotLaw edgeWaits ∧
    NoRequestWaitsForAFreeUnit edgeWaits := by decide

end Sys2Proof.Tests
end

section
/-! SUPPORT. The blocks beside the conversion unit: what the operations of a step leave of the unit, of the oscillator's
holder and of the ranges of registers and stored windows, said once for all laws of the unit. -/

namespace Sys2Proof.Machine

/-! ### The ranges outside the unit -/

/-- What the laws of ranges say outside the conversion unit: FIFO_THRESHOLD (R130), CACHE_MAX_AGE (R39), WINDOW_MAX
(R173), SCAN_INTERVAL (R177), the skip tally and scans remaining (R65), the min counts (R28) and the cached windows
(R10, R36). -/
def StoredRanges (s : State) : Prop :=
  (1 ≤ s.fifo.threshold ∧ s.fifo.threshold ≤ Config.fifoCapacity) ∧ s.cache.maxAge ≤ Config.maxAge ∧
  Config.minWindow ≤ s.time.windowMax.toNat ∧ s.time.scanInterval ≠ 0 ∧
  s.ctl.skipTally ≤ Config.maxSkips ∧ s.ctl.remaining ≤ 65535 ∧
  (∀ c : Fin 16, s.channels[c].minCount ≠ 0) ∧
  ∀ e ∈ s.cache.slots, Config.minWindow ≤ e.window ∧ e.window ≤ Config.fullScale

theorem StoredRanges.minCounts {s : State} (h : StoredRanges s) : ∀ c : Fin 16, s.channels[c].minCount ≠ 0 := by
  obtain ⟨-, -, -, -, -, -, minCounts, -⟩ := h
  exact minCounts

theorem StoredRanges.windows {s : State} (h : StoredRanges s) :
    ∀ e ∈ s.cache.slots, Config.minWindow ≤ e.window ∧ e.window ≤ Config.fullScale := by
  obtain ⟨-, -, -, -, -, -, -, windows⟩ := h
  exact windows

/-- An operation beside the unit: the unit and the oscillator's holder stay, and the stored ranges are kept. -/
structure UnitFrame (s t : State) : Prop where
  conv : t.conv = s.conv
  holder : t.arb.holder = s.arb.holder
  ranges : StoredRanges s → StoredRanges t

theorem UnitFrame.rfl {s : State} : UnitFrame s s := ⟨Eq.refl _, Eq.refl _, id⟩

theorem UnitFrame.trans {s t u : State} (h : UnitFrame s t) (k : UnitFrame t u) : UnitFrame s u :=
  ⟨k.conv.trans h.conv, k.holder.trans h.holder, k.ranges ∘ h.ranges⟩

/-- A change of the controller and the cache that keeps the ranges of what it writes. -/
theorem UnitFrame.of_ctl_cache {s t : State} (conv : t.conv = s.conv) (arb : t.arb.holder = s.arb.holder)
    (fifo : t.fifo.threshold = s.fifo.threshold) (time : t.time.windowMax = s.time.windowMax)
    (interval : t.time.scanInterval = s.time.scanInterval) (channels : t.channels = s.channels)
    (maxAge : t.cache.maxAge = s.cache.maxAge)
    (skips : s.ctl.skipTally ≤ Config.maxSkips → t.ctl.skipTally ≤ Config.maxSkips)
    (remaining : s.ctl.remaining ≤ 65535 → t.ctl.remaining ≤ 65535)
    (slots : StoredRanges s → ∀ e ∈ t.cache.slots, Config.minWindow ≤ e.window ∧ e.window ≤ Config.fullScale) :
    UnitFrame s t := by
  refine ⟨conv, arb, fun h => ?_⟩
  obtain ⟨ht, ha, hw, hi, hk, hr, hm, -⟩ := id h
  refine ⟨?_, ?_, ?_, ?_, skips hk, remaining hr, ?_, slots h⟩
  · rwa [fifo]
  · rwa [maxAge]
  · rwa [time]
  · rwa [interval]
  · rwa [channels]

/-! ### Moves of the scan controller -/

theorem appendRecord_unitFrame (r : FifoRecord) (s : State) : UnitFrame s (appendRecord r s) :=
  ⟨by simp, by simp, by simp [StoredRanges]⟩

theorem offerAndFlag_unitFrame (r : MeasRecord) (s : State) : UnitFrame s (offerAndFlag r s) :=
  ⟨by simp, by simp, by simp [StoredRanges]⟩

theorem tally_unitFrame (r : MeasRecord) (d : Bool) (s : State) : UnitFrame s (tally r d s) := ⟨rfl, rfl, id⟩

theorem holdRecord_unitFrame (r : MeasRecord) (s : State) : UnitFrame s (holdRecord r s) := ⟨rfl, rfl, id⟩

theorem afterRecord_unitFrame (r : MeasRecord) (s : State) : UnitFrame s (afterRecord r s).1 := by
  rcases afterRecord_cases r s with ⟨-, -, h⟩ | ⟨i, -, -, h⟩ | ⟨-, h⟩ <;> rw [h] <;> exact ⟨rfl, rfl, id⟩

theorem handleRecord_unitFrame (r : MeasRecord) (s : State) : UnitFrame s (handleRecord r s).1 := by
  have offered := offerAndFlag_unitFrame r s
  rcases handleRecord_cases r s with ⟨-, h⟩ | ⟨-, -, h⟩ | ⟨-, -, h⟩ <;> rw [h]
  · exact ((offered.trans (appendRecord_unitFrame _ _)).trans (tally_unitFrame r false _)).trans
      (afterRecord_unitFrame r _)
  · exact (offered.trans (tally_unitFrame r true _)).trans (afterRecord_unitFrame r _)
  · exact offered.trans (holdRecord_unitFrame r _)

theorem reachEntry_unitFrame (s : State) : UnitFrame s (reachEntry s).1 := by
  rcases reachEntry_cases s with ⟨-, h⟩ | ⟨-, h⟩ <;> rw [h]
  · exact ⟨rfl, rfl, id⟩
  · exact handleRecord_unitFrame _ s

/-- A scan end clears the skip tally, counts scans remaining down and ages the cache, whose windows stay (R88, R42). -/
theorem closeScan_unitFrame (t : Termination) (s : State) : UnitFrame s (closeScan t s) := by
  refine .of_ctl_cache (by simp) (by simp) (by simp) (by simp) (by simp) (by simp) (by simp [Cache.aged]) ?_ ?_ ?_
  · simp
  · simp only [closeScan_ctl]; omega
  · intro stored
    simpa [Cache.aged] using stored.windows

theorem enterIdle_unitFrame (s : State) : UnitFrame s (enterIdle s) := ⟨rfl, rfl, id⟩

theorem enterArmed_unitFrame (s : State) : UnitFrame s (enterArmed s) := ⟨rfl, rfl, id⟩

theorem endScan_unitFrame (t : Termination) (s : State) : UnitFrame s (endScan t s).1 := by
  rcases endScan_cases t s with ⟨-, h⟩ | ⟨-, h⟩ <;> rw [h]
  · exact (closeScan_unitFrame t s).trans (enterIdle_unitFrame _)
  · exact (closeScan_unitFrame t s).trans (enterArmed_unitFrame _)

/-- The skip tally saturates (R65). -/
theorem succUpTo_le (bound n : Nat) : succUpTo bound n ≤ bound := Nat.min_le_right _ _

theorem startAttempt_unitFrame (s : State) : UnitFrame s (startAttempt s).1 := by
  rcases startAttempt_cases s with ⟨-, h⟩ | ⟨-, -, h⟩ | ⟨-, -, h⟩ <;> rw [h]
  · exact ⟨rfl, rfl, id⟩
  · exact .of_ctl_cache rfl rfl rfl rfl rfl rfl rfl (fun _ => succUpTo_le _ _) id fun h => h.windows
  · exact ⟨rfl, rfl, id⟩

/-! ### The walk with the rest of its step -/

/-- A law that each move of the scan controller keeps, in whatever state it is taken. -/
structure KeptByWalk (P : State → Prop) : Prop where
  reaches : ∀ s, P s → P (reachEntry s).1
  handles : ∀ r s, P s → P (handleRecord r s).1
  ends : ∀ t s, P s → P (endScan t s).1
  attempts : ∀ s, P s → P (startAttempt s).1

section
variable {P : State → Prop}

theorem KeptByWalk.walkKeeps (k : KeptByWalk P) : WalkKeeps P where
  request s _ _ h := k.reaches s h
  moves r s _ h _ _ := k.handles r s h
  ends r s t _ h _ _ := k.ends t _ (k.handles r s h)
  restarts r s t _ h _ _ := k.attempts _ (k.ends t _ (k.handles r s h))

theorem takeScanResult_keeps (k : KeptByWalk P) (r : Result) (s : State) (h : P s) : P (takeScanResult r s) := by
  unfold takeScanResult
  split
  · exact continueWalk_handled_keeps k.walkKeeps _ s ‹_› h
  · exact h

/-- The end of a scan with the scan that a latched trigger starts in the same step. -/
theorem continueWalk_ended_keeps (k : KeptByWalk P) (t : Termination) (s : State) (h : P s) :
    P (continueWalk (s, .ends t)) := by
  have ended := k.ends t s h
  have attempted := k.attempts _ ended
  have started := startAttempt_started (endScan t s).1
  show P (match endScan t s with
    | (u, false) => u
    | (u, true) => match startAttempt u with
      | (v, true) => runScans 0 (v, .reaches)
      | (v, false) => v)
  revert ended attempted started
  generalize endScan t s = o
  obtain ⟨u, latched⟩ := o
  cases latched with
  | false => exact fun ended _ _ => ended
  | true =>
    dsimp only
    generalize startAttempt u = o
    obtain ⟨v, begun⟩ := o
    cases begun with
    | false => exact fun _ attempted _ => attempted
    | true =>
      intro _ attempted started
      obtain ⟨scanning, untriggered⟩ := started rfl
      exact runScans_zero_keeps k.walkKeeps v scanning attempted untriggered

/-- The walk goes on from a record that has left the controller in SCANNING. -/
theorem continueWalk_afterRecord_keeps (k : KeptByWalk P) (r : MeasRecord) (s : State)
    (scanning : s.ctl.state = .scanning) (h : P (afterRecord r s).1) : P (continueWalk (afterRecord r s)) := by
  rcases afterRecord_cases r s with ⟨-, -, e⟩ | ⟨i, -, -, e⟩ | ⟨-, e⟩ <;> rw [e] at h ⊢
  · exact continueWalk_ended_keeps k _ s h
  · show P (reachOn _)
    rw [reachOn_eq]
    rcases reachEntry_cases { s with ctl := { s.ctl with entryIndex := i } } with ⟨-, w⟩ | ⟨-, w⟩
    · have := k.reaches _ h
      rw [w] at this ⊢
      exact this
    · rw [w]
      exact continueWalk_handled_keeps k.walkKeeps _ _ scanning h
  · exact continueWalk_ended_keeps k _ s h

end

/-- Every move of the controller is beside the unit. -/
theorem unitFrame_keptByWalk (s : State) : KeptByWalk (UnitFrame s) where
  reaches u h := h.trans (reachEntry_unitFrame u)
  handles r u h := h.trans (handleRecord_unitFrame r u)
  ends t u h := h.trans (endScan_unitFrame t u)
  attempts u h := h.trans (startAttempt_unitFrame u)

theorem deliver_unitFrame (who : Requester) (r : Result) (s : State) : UnitFrame s (deliver who r s) := by
  cases who with
  | scan => exact takeScanResult_keeps (unitFrame_keptByWalk s) r s .rfl
  | spot => exact ⟨rfl, rfl, id⟩


theorem overrun_unitFrame (s : State) : UnitFrame s (overrun s) :=
  .of_ctl_cache rfl rfl rfl rfl rfl rfl rfl (fun _ => succUpTo_le _ _) id fun h => h.windows

/-! ### Commands beside the unit -/

/-- The part of a start command before its scan start attempt, and all of ARM_TRIGGER but the state (R71 to R73). -/
theorem runBegun_unitFrame (s : State) (m : Mode) (n : Nat) (h : n ≤ 65535) : UnitFrame s (s.runBegun m n) :=
  .of_ctl_cache rfl rfl rfl rfl rfl rfl rfl id (fun _ => h) fun h => h.windows

/-- A change of the cache's slots to slots of the same windows. -/
theorem slots_unitFrame (s : State) (slots : List CacheSlot) (h : ∀ e ∈ slots, e ∈ s.cache.slots) :
    UnitFrame s { s with cache := { s.cache with slots := slots } } :=
  .of_ctl_cache rfl rfl rfl rfl rfl rfl rfl id id fun stored e he => stored.windows e (h e he)

theorem invalidateAll_unitFrame (s : State) : UnitFrame s { s with cache := s.cache.invalidateAll } :=
  slots_unitFrame s [] (by simp)

theorem withArgs_unitFrame {α : Type} (s : State) (parsed : Except Byte α) (f : α → Answer)
    (h : ∀ a, parsed = .ok a → UnitFrame s (f a).state) : UnitFrame s (withArgs s parsed f).state := by
  rcases withArgs_cases s parsed f with ⟨d, -, e⟩ | ⟨a, parses, e⟩ <;> rw [e]
  · exact .rfl
  · exact h a parses

theorem armTrigger_unitFrame (s : State) : UnitFrame s (armTrigger s).state := by
  unfold armTrigger
  split
  · exact .rfl
  · exact (runBegun_unitFrame s .triggered _ (Nat.le_of_lt_succ s.ctl.scanCount.isLt)).trans ⟨rfl, rfl, id⟩

theorem stopRun_unitFrame (s : State) : UnitFrame s (stopRun s).state := by
  unfold stopRun
  split <;> exact ⟨rfl, rfl, id⟩

theorem setLength_unitFrame (s : State) : UnitFrame s (setLength s).state := by
  unfold setLength
  split
  · exact .rfl
  · exact withArgs_unitFrame s _ _ fun _ _ => ⟨rfl, rfl, id⟩

theorem writeEntry_unitFrame (s : State) : UnitFrame s (writeEntry s).state := by
  unfold writeEntry
  split
  · exact .rfl
  · exact withArgs_unitFrame s _ _ fun _ _ => ⟨rfl, rfl, id⟩

theorem commit_unitFrame (s : State) : UnitFrame s (commit s).state := by
  unfold commit
  split
  · exact .rfl
  · split
    · exact .rfl
    · dsimp only
      split <;> exact ⟨rfl, rfl, id⟩

/-- A byte argument that parses, with the rest of the parse. -/
theorem argAt_bind {α β : Type} {pos : Byte} {a : Option α} {f : α → Except Byte β} {b : β}
    (h : (argAt pos a >>= f) = .ok b) : ∃ x, a = some x ∧ f x = .ok b := by
  cases a with
  | none => cases h
  | some x => exact ⟨x, rfl, h⟩

/-- WRITE_CHANNEL refuses a min count of 0 (R29). -/
theorem parseWriteChannel_minCount {s : State} {i : Fin 16} {c : Channel} (h : parseWriteChannel s = .ok (i, c)) :
    c.minCount ≠ 0 := by
  obtain ⟨_, -, h⟩ := argAt_bind h
  obtain ⟨_, -, h⟩ := argAt_bind h
  obtain ⟨_, -, h⟩ := argAt_bind h
  obtain ⟨m, nonzero, h⟩ := argAt_bind h
  cases h
  simp only [nonzeroArg, Option.ite_none_left_eq_some, Option.some.injEq] at nonzero
  obtain ⟨ne, rfl⟩ := nonzero
  exact ne

theorem writeChannel_unitFrame (s : State) : UnitFrame s (writeChannel s).state := by
  refine withArgs_unitFrame s _ _ fun ⟨i, c⟩ parses => ⟨rfl, rfl, ?_⟩
  rintro ⟨ht, ha, hw, hi, hk, hr, minCounts, hc⟩
  refine ⟨ht, ha, hw, hi, hk, hr, fun j => ?_, hc⟩
  show (s.channels.set i c)[j].minCount ≠ 0
  rw [Fin.getElem_fin, Vector.getElem_set]
  split
  · exact parseWriteChannel_minCount parses
  · exact minCounts j

theorem writeReference_unitFrame (s : State) : UnitFrame s (writeReference s).state :=
  withArgs_unitFrame s _ _ fun ⟨r, _⟩ _ =>
    (slots_unitFrame s (s.cache.slots.filter fun e => e.reference != r) fun _ he => (List.mem_filter.1 he).1).trans
      ⟨rfl, rfl, id⟩

/-- PRELOAD_WINDOW takes a window from 16 to WINDOW_MAX (R41). -/
theorem parsePreload_window {s : State} {r : Fin 4} {k : Fin 13} {w : Nat} (h : parsePreload s = .ok (r, k, w)) :
    Config.minWindow ≤ w ∧ w ≤ s.time.windowMax.toNat := by
  obtain ⟨_, -, h⟩ := argAt_bind h
  obtain ⟨_, -, h⟩ := argAt_bind h
  obtain ⟨v, inRange, h⟩ := argAt_bind h
  cases h
  simp only [rangeArg, Option.ite_none_right_eq_some, Option.some.injEq] at inRange
  obtain ⟨bounds, rfl⟩ := inRange
  exact bounds

/-- A store keeps the windows in range where its own window is (R40). -/
theorem mem_store {c : Cache} {r : Fin 4} {k : Fin 13} {w : Nat} {e : CacheSlot} (h : e ∈ (c.store r k w).slots) :
    e.window = w ∨ e ∈ c.slots := by
  rcases List.mem_cons.1 (List.mem_of_mem_take h) with rfl | he
  · exact .inl rfl
  · exact .inr (List.mem_filter.1 he).1

theorem store_unitFrame (s : State) (r : Fin 4) (k : Fin 13) (w : Nat)
    (hw : Config.minWindow ≤ w ∧ w ≤ Config.fullScale) : UnitFrame s { s with cache := s.cache.store r k w } := by
  refine .of_ctl_cache rfl rfl rfl rfl rfl rfl rfl id id fun h e he => ?_
  rcases mem_store he with rfl | he
  · exact hw
  · exact h.windows e he

theorem preloadWindow_unitFrame (s : State) : UnitFrame s (preloadWindow s).state := by
  refine withArgs_unitFrame s _ _ fun ⟨r, k, w⟩ parses => ?_
  obtain ⟨low, high⟩ := parsePreload_window parses
  exact store_unitFrame s r k w ⟨low, high.trans (Nat.le_of_lt_succ s.time.windowMax.isLt)⟩

theorem setClock_unitFrame (s : State) : UnitFrame s (setClock s).state := by
  unfold setClock
  split
  · exact .rfl
  · exact withArgs_unitFrame s _ _ fun _ _ => (invalidateAll_unitFrame s).trans ⟨rfl, rfl, id⟩

/-! ### Registers, frames and pins -/

theorem writeScanCtrl_unitFrame (v : Byte) (s : State) : UnitFrame s (writeScanCtrl v s) := ⟨rfl, rfl, id⟩

theorem clearFlags_unitFrame (v : Byte) (s : State) : UnitFrame s (clearFlags v s) := ⟨rfl, rfl, id⟩

theorem setEnables_unitFrame (v : Byte) (s : State) : UnitFrame s (setEnables v s) := ⟨rfl, rfl, id⟩

theorem completeScanCount_unitFrame (v : Byte) (s : State) : UnitFrame s (completeScanCount v s) := ⟨rfl, rfl, id⟩

theorem stage_unitFrame (which : StagedByte) (v : Byte) (s : State) : UnitFrame s (stage which v s) := by
  cases which <;> exact ⟨rfl, rfl, id⟩

theorem writeParam_unitFrame (a : Addr) (v : Byte) (s : State) : UnitFrame s (writeParam a v s) := by
  unfold writeParam
  split <;> exact ⟨rfl, rfl, id⟩

/-- FIFO_THRESHOLD is taken within 1 to 32 (R130). -/
theorem writeFifoThreshold_unitFrame (v : Byte) (s : State) : UnitFrame s (writeFifoThreshold v s) := by
  refine ⟨rfl, rfl, ?_⟩
  rintro ⟨-, rest⟩
  exact ⟨⟨Nat.le_max_left _ _, Nat.max_le.2 ⟨by decide, Nat.min_le_right _ _⟩⟩, rest⟩

/-- CACHE_MAX_AGE is taken up to 15 (R39). -/
theorem writeCacheMaxAge_unitFrame (v : Byte) (s : State) : UnitFrame s (writeCacheMaxAge v s) := by
  refine ⟨rfl, rfl, ?_⟩
  rintro ⟨threshold, -, rest⟩
  exact ⟨threshold, Nat.min_le_right _ _, rest⟩

/-- WINDOW_MAX is taken from 16 (R173). -/
theorem completeWindowMax_unitFrame (v : Byte) (s : State) : UnitFrame s (completeWindowMax v s) := by
  refine ⟨rfl, rfl, ?_⟩
  rintro ⟨threshold, maxAge, -, rest⟩
  refine ⟨threshold, maxAge, ?_, rest⟩
  simp only [completeWindowMax, setWindowMax]
  split
  · decide
  · next h => exact Nat.le_of_not_lt h

/-- SCAN_INTERVAL is never 0 (R177). -/
theorem completeScanInterval_unitFrame (v : Byte) (s : State) : UnitFrame s (completeScanInterval v s) := by
  refine ⟨rfl, rfl, ?_⟩
  rintro ⟨threshold, maxAge, windowMax, -, rest⟩
  refine ⟨threshold, maxAge, windowMax, ?_, rest⟩
  simp only [completeScanInterval, setScanInterval]
  split
  · decide
  · next h => exact h

theorem beforeRead_unitFrame (a : Addr) (s : State) : UnitFrame s (beforeRead a s) := by
  unfold beforeRead
  split <;> exact ⟨rfl, rfl, id⟩

theorem shiftOut_unitFrame (v : Byte) (s : State) : UnitFrame s (shiftOut v s) := ⟨rfl, rfl, id⟩

theorem popEvent_unitFrame (s : State) : UnitFrame s (popEvent s) := ⟨rfl, rfl, id⟩

theorem csFalls_unitFrame (s : State) : UnitFrame s (csFalls s) := by
  unfold csFalls
  dsimp only
  split
  · exact .rfl
  · split <;> exact ⟨rfl, rfl, id⟩

theorem takeAddress_unitFrame (b : Byte) (s : State) : UnitFrame s (takeAddress b s) := by
  unfold takeAddress
  split <;> exact ⟨rfl, rfl, id⟩

theorem rstRises_unitFrame (s : State) : UnitFrame s (rstRises s) := by
  unfold rstRises
  split
  · dsimp only
    split <;> exact ⟨rfl, rfl, id⟩
  · exact .rfl

end Sys2Proof.Machine
end

section
/-! SUPPORT. The principle by which a law of the conversion unit is carried through every step: it is enough that the
law is kept beside the unit, by a grant, by what a boundary or an edge does to the unit, by the return to IDLE, and by
the resets. -/

namespace Sys2Proof.Machine

/-! ### Steps of the unit -/

/-- What a period boundary of the given kind does to the unit, before an ended measurement is handed over. -/
def boundaryOutcome (k : Boundary) (s : State) : State × Option Result :=
  match k with
  | .ignored => (s, none)
  | .counted => (countPeriod s, none)
  | .refSettleExpiry => (refSettleExpires s, none)
  | .refTimeout => refTimesOut s
  | .snsSettleExpiry => (snsSettleExpires s, none)
  | .firstHalfEnd => (firstHalfEnds s, none)
  | .windowEnd => windowEnds s

/-- What an oscillator edge of the given kind does to the unit, before an ended measurement is handed over. -/
def edgeOutcome (k : Edge) (s : State) : State × Option Result :=
  match k with
  | .ignored => (s, none)
  | .counted => (countEdge s, none)
  | .openingEdge => (edgeOpens s, none)
  | .referenceComplete => referenceCompletes s
  | .sensorOverrange => sensorOverranges s

theorem takeBoundary_eq (k : Boundary) (s : State) : takeBoundary k s = settleUnit (boundaryOutcome k s) := by
  cases k <;> rfl

theorem takeEdge_eq (k : Edge) (s : State) : takeEdge k s = settleUnit (edgeOutcome k s) := by
  cases k <;> rfl

/-- The unit after its part of a step: back in IDLE where the measurement ended (R4). -/
def parkIfEnded (out : State × Option Result) : State :=
  match out with
  | (s, none) => s
  | (s, some _) => parkUnit s

/-! ### The principle -/

/-- A law that the unit's own moves keep, and everything beside the unit. -/
structure UnitInvariant (P : State → Prop) : Prop where
  frame : ∀ s t, UnitFrame s t → P s → P t
  parks : ∀ s, P s → P (parkUnit s)
  grants : ∀ s who q, s.arb.holder = none → P s → P (parkIfEnded (grantUnit who q (takeGrant who s)))
  boundary : ∀ s, P s → P (parkIfEnded (boundaryOutcome s.conv.boundary s))
  edge : ∀ s, P s → P (parkIfEnded (edgeOutcome s.conv.edge s))
  engineReset : ∀ s, P s → P (engineReset s)
  hardReset : ∀ s, P (hardResetValues s)

/-- Refused arguments keep any law (R191). -/
theorem withArgs_keeps {P : State → Prop} {s : State} {α : Type} {parsed : Except Byte α} {f : α → Answer} (h : P s)
    (hf : ∀ a, P (f a).state) : P (withArgs s parsed f).state := by
  rcases withArgs_cases s parsed f with ⟨d, -, e⟩ | ⟨a, -, e⟩ <;> rw [e]
  · exact h
  · exact hf a

/-- A row whose condition does not hold keeps any law (log 3). -/
theorem guarded_keeps {P : State → Prop} {c : Prop} [Decidable c] {s t : State} (h : P s) (ht : P t) :
    P (if c then t else s) := by
  split
  · exact ht
  · exact h

namespace UnitInvariant

variable {P : State → Prop} (k : UnitInvariant P) {s : State}
include k

/-- The walk is beside the unit. -/
theorem keptByWalk : KeptByWalk P where
  reaches u h := k.frame _ _ (reachEntry_unitFrame u) h
  handles r u h := k.frame _ _ (handleRecord_unitFrame r u) h
  ends t u h := k.frame _ _ (endScan_unitFrame t u) h
  attempts u h := k.frame _ _ (startAttempt_unitFrame u) h

/-! ### Grants and the ends of measurements -/

theorem arbitrate (h : P s) : P (arbitrate s) := by
  refine arbitrate_keeps ?_ ?_ s h <;> intro u who q free _ enabled hu
  all_goals
    have channels : (takeGrant who u).channels = u.channels := (takeGrant_frame who u).channels
    have granted := k.grants u who q free hu
    rcases grantUnit_cases who q (takeGrant who u) with ⟨e, g⟩ | ⟨e, g⟩ <;> rw [channels, enabled] at e
  · rw [g] at granted ⊢
    exact granted
  · cases e
  · cases e
  · rw [g] at granted ⊢
    exact k.frame _ _ (deliver_unitFrame who _ _) granted

theorem finish (r : Result) (h : P (parkUnit s)) : P (finish r s) := by
  unfold Machine.finish
  split
  · exact k.arbitrate h
  · exact k.arbitrate (k.frame _ _ (deliver_unitFrame _ r _) h)

theorem settleUnit {out : State × Option Result} (h : P (parkIfEnded out)) : P (settleUnit out) := by
  obtain ⟨u, r⟩ := out
  cases r with
  | none => exact h
  | some r => exact k.finish r h

/-- The next period boundary, whatever it does. -/
theorem takeBoundary (h : P s) : P (takeBoundary s.conv.boundary s) := by
  rw [takeBoundary_eq]
  exact k.settleUnit (k.boundary s h)

/-- The next oscillator edge, whatever it does. -/
theorem takeEdge (h : P s) : P (takeEdge s.conv.edge s) := by
  rw [takeEdge_eq]
  exact k.settleUnit (k.edge s h)

theorem boundaryRow (b : Boundary) (h : P s) : P (boundaryRow b s) := by
  unfold Machine.boundaryRow
  split
  · next e => exact e ▸ k.takeBoundary h
  · exact h

theorem edgeRow (e : Edge) (h : P s) : P (edgeRow e s) := by
  unfold Machine.edgeRow
  split
  · next e => exact e ▸ k.takeEdge h
  · exact h

/-! ### Starts, triggers and room reports -/

theorem attemptStart (h : P s) : P (attemptStart s).1 :=
  attemptStart_keeps k.keptByWalk.walkKeeps (fun _ hu => k.arbitrate hu) s (k.frame _ _ (startAttempt_unitFrame s) h)

theorem takeTrigger (h : P s) : P (takeTrigger s) := by
  unfold Machine.takeTrigger
  split
  · exact h
  · exact k.attemptStart h
  all_goals
    split
    · exact k.frame _ _ (overrun_unitFrame s) h
    · exact k.frame s _ ⟨rfl, rfl, id⟩ h

theorem reofferRecord (h : P s) : P (reofferRecord s) := by
  unfold Machine.reofferRecord
  split
  · exact h
  · next r _ =>
    split
    · refine k.arbitrate (continueWalk_afterRecord_keeps k.keptByWalk r _ rfl ?_)
      refine k.frame _ _ (afterRecord_unitFrame r _) ?_
      exact k.frame _ _ ((appendRecord_unitFrame (.measurement r) s).trans ⟨rfl, rfl, id⟩) h
    · exact h

theorem roomReport (h : P s) : P (roomReport s) := by
  unfold Machine.roomReport
  split
  · exact k.attemptStart h
  · exact k.reofferRecord h
  all_goals exact h

theorem popResult (h : P s) : P (popResult s) := by
  unfold Machine.popResult
  split
  · exact h
  · exact k.roomReport (k.frame s _ ⟨rfl, rfl, id⟩ h)

/-! ### Commands -/

theorem stopSpot (h : P s) : P (stopSpot s) := by
  unfold Machine.stopSpot
  split
  · exact k.frame (parkUnit s) _ ⟨rfl, rfl, id⟩ (k.parks s h)
  · exact h

theorem cutOffScan (h : P s) : P (cutOffScan s) := by
  have withdrawn : UnitFrame s { s with ctl := { s.ctl with grantOutstanding := false, held := none },
                                        arb := { s.arb with scanReq := none } } := ⟨rfl, rfl, id⟩
  unfold Machine.cutOffScan
  dsimp only
  split
  · exact k.parks _ (k.frame _ _ withdrawn h)
  · exact k.frame _ _ withdrawn h

theorem startSingle (h : P s) : P (startSingle s).state := by
  unfold Machine.startSingle
  split
  · exact h
  · split
    · exact h
    · exact k.attemptStart (k.frame _ _ (runBegun_unitFrame s .single 1 (by decide)) h)

theorem startTimed (h : P s) : P (startTimed s).state := by
  unfold Machine.startTimed
  split
  · exact h
  · refine k.attemptStart (k.frame _ _ (runBegun_unitFrame s .timed s.ctl.scanCount.toNat ?_ |>.trans ⟨rfl, rfl, id⟩) h)
    exact Nat.le_of_lt_succ s.ctl.scanCount.isLt

theorem abortRun (h : P s) : P (abortRun s).state := by
  unfold Machine.abortRun
  split
  · exact h
  iterate 2 exact k.frame _ _ (enterIdle_unitFrame s) h
  all_goals
    exact k.arbitrate (k.frame _ _ ((closeScan_unitFrame .aborted _).trans (enterIdle_unitFrame _)) (k.cutOffScan h))

theorem spotCommand (h : P s) : P (spotCommand s).state := by
  unfold Machine.spotCommand
  split
  · exact h
  · refine withArgs_keeps h fun q => ?_
    split
    · exact k.arbitrate (k.frame s _ ⟨rfl, rfl, id⟩ h)
    · exact h

theorem cancelSpot (h : P s) : P (cancelSpot s).state := by
  unfold Machine.cancelSpot
  split
  · exact h
  · exact k.arbitrate (k.frame s _ ⟨rfl, rfl, id⟩ h)
  · exact k.arbitrate (k.stopSpot h)

theorem runCommand (c : Command) (h : P s) : P (runCommand c s).state := by
  cases c with
  | startSingle => exact k.startSingle h
  | startTimed => exact k.startTimed h
  | abort => exact k.abortRun h
  | resetEngine => exact k.engineReset s h
  | spot => exact k.spotCommand h
  | cancelSpot => exact k.cancelSpot h
  | flushFifo => exact k.roomReport (k.frame s _ ⟨rfl, rfl, id⟩ h)
  | armTrigger => exact k.frame _ _ (armTrigger_unitFrame s) h
  | stop => exact k.frame _ _ (stopRun_unitFrame s) h
  | setLength => exact k.frame _ _ (setLength_unitFrame s) h
  | writeEntry => exact k.frame _ _ (writeEntry_unitFrame s) h
  | commit => exact k.frame _ _ (commit_unitFrame s) h
  | writeChannel => exact k.frame _ _ (writeChannel_unitFrame s) h
  | writeReference => exact k.frame _ _ (writeReference_unitFrame s) h
  | preloadWindow => exact k.frame _ _ (preloadWindow_unitFrame s) h
  | invalidateCache => exact k.frame _ _ (invalidateAll_unitFrame s) h
  | setClock => exact k.frame _ _ (setClock_unitFrame s) h
  | writeSlot => exact k.frame _ _ (withArgs_unitFrame s _ _ fun _ _ => ⟨rfl, rfl, id⟩) h
  | readEntry | readChannel | readReference | readCache | readSlot =>
    exact k.frame _ _ (withArgs_unitFrame s _ _ fun _ _ => ⟨rfl, rfl, id⟩) h

/-! ### Register accesses -/

theorem takeCode (v : Byte) (h : P s) : P (takeCode v s) := by
  unfold Machine.takeCode
  split
  · next c _ => exact k.frame (Machine.runCommand c s).state _ ⟨rfl, rfl, id⟩ (k.runCommand c h)
  · exact k.frame s _ ⟨rfl, rfl, id⟩ h

theorem writeValue (a : Addr) (v : Byte) (h : P s) : P (writeValue a v s) := by
  unfold Machine.writeValue
  split
  · exact k.takeCode v h
  · exact k.frame _ _ (writeScanCtrl_unitFrame v s) h
  · exact k.frame _ _ (writeFifoThreshold_unitFrame v s) h
  · exact k.frame _ _ (stage_unitFrame _ v s) h
  · exact k.frame _ _ (completeScanCount_unitFrame v s) h
  · exact k.frame _ _ (stage_unitFrame _ v s) h
  · exact k.frame _ _ (completeScanInterval_unitFrame v s) h
  · exact k.frame _ _ (clearFlags_unitFrame v s) h
  · exact k.frame _ _ (setEnables_unitFrame v s) h
  · exact k.frame _ _ (writeCacheMaxAge_unitFrame v s) h
  · exact k.frame _ _ (stage_unitFrame _ v s) h
  · exact k.frame _ _ (stage_unitFrame _ v s) h
  · exact k.frame _ _ (completeWindowMax_unitFrame v s) h
  · exact k.frame _ _ (writeParam_unitFrame a v s) h

/-- A write row keeps the law where what it writes does. -/
theorem writeRow (a : Addr) (f : State → State) (h : P s) (hf : P s → P (f s)) : P (writeRow a f s) := by
  unfold Machine.writeRow
  split
  · exact k.frame (f s) _ ⟨rfl, rfl, id⟩ (hf h)
  · exact h

/-- A write row that writes beside the unit. -/
theorem writeRow_beside (a : Addr) (f : State → State) (hf : UnitFrame s (f s)) (h : P s) :
    P (Machine.writeRow a f s) :=
  k.writeRow a f h (k.frame _ _ hf)

theorem commandRow (c : Command) (h : P s) : P (commandRow c (Machine.runCommand c) s) :=
  k.writeRow _ _ h fun h => k.frame (Machine.runCommand c s).state _ ⟨rfl, rfl, id⟩ (k.runCommand c h)

theorem readByte (h : P s) : P (readByte s) := by
  rw [readByte_eq]
  have shifted := k.frame _ _ ((beforeRead_unitFrame s.port.pointer s).trans
    (shiftOut_unitFrame (readValue (beforeRead s.port.pointer s) s.port.pointer) _)) h
  unfold afterRead
  split
  · exact k.popResult shifted
  · exact k.frame _ _ (popEvent_unitFrame _) shifted
  · exact shifted

theorem readBytes (n : Nat) (h : P s) : P (readBytes n s) := by
  induction n generalizing s with
  | zero => exact h
  | succ n ih => exact ih (k.readByte h)

theorem readRow (a : Addr) (h : P s) : P (readRow a s) := by
  unfold Machine.readRow
  split
  · exact k.readBytes _ h
  · exact h

theorem accessRow (a : Addr) (x : Access) (h : P s) : P (accessRow a x s) := by
  cases x with
  | read => exact k.readRow a h
  | write v => exact k.writeRow a _ h (k.writeValue a v)

theorem csRises (reads : Nat) (h : P s) : P (csRises reads s) := by
  unfold Machine.csRises
  split
  · dsimp only
    split
    · exact k.frame (Machine.readBytes reads s) _ ⟨rfl, rfl, id⟩ (k.readBytes reads h)
    · exact k.frame s _ ⟨rfl, rfl, id⟩ h
  · exact h

/-! ### Pins, clocks and resets -/

theorem rstRises (h : P s) : P (rstRises s) := k.frame _ _ (rstRises_unitFrame s) h

theorem supplyCrosses (above : Bool) (h : P s) : P (supplyCrosses above s) := by
  unfold Machine.supplyCrosses
  split
  · exact h
  · dsimp only
    split
    · split <;> exact k.frame s _ ⟨rfl, rfl, id⟩ h
    · exact k.hardReset _

theorem trigChanges (high : Bool) (h : P s) : P (trigChanges high s) := by
  unfold Machine.trigChanges
  split
  · exact h
  · dsimp only
    split
    · exact k.frame s _ ⟨rfl, rfl, id⟩ h
    · unfold deliverEdge
      split
      · exact k.takeTrigger (k.frame s _ ⟨rfl, rfl, id⟩ h)
      · exact k.frame s _ ⟨rfl, rfl, id⟩ h

theorem takeLfBoundary (b : LfBoundary) (h : P s) : P (takeLfBoundary b s) := by
  cases b with
  | ignored => exact h
  | counted => exact k.frame s _ ⟨rfl, rfl, id⟩ h
  | unitEnd => exact k.frame s _ ⟨rfl, rfl, id⟩ h
  | expiry =>
    show P (deliverExpiry _)
    unfold deliverExpiry
    split
    · exact k.takeTrigger (k.frame s _ ⟨rfl, rfl, id⟩ h)
    · exact k.frame s _ ⟨rfl, rfl, id⟩ h

theorem lfRow (b : LfBoundary) (h : P s) : P (lfRow b s) := by
  unfold Machine.lfRow
  split
  · exact k.takeLfBoundary b h
  · exact h

theorem unitRow (h : P s) : P (unitRow s) := by
  unfold Machine.unitRow
  split <;> exact k.lfRow _ h

/-! ### Every command -/

/-- Every command keeps the law. -/
theorem exec (i : Instr) (h : P s) : ∃ t, exec i s = .next t ∧ P t := by
  cases i
  case startSingle | startTimed | armTrigger | stop | abort | resetEngine | setLength | writeEntry | readEntry |
      commit | writeChannel | readChannel | writeReference | readReference | preloadWindow | readCache |
      invalidateCache | spot | cancelSpot | flushFifo | writeSlot | readSlot | setClock =>
    exact ⟨_, rfl, k.commandRow _ h⟩
  case unknownCommand code => exact ⟨_, rfl, k.writeRow _ _ h (k.takeCode code)⟩
  case frameStart => exact ⟨_, rfl, k.frame _ _ (csFalls_unitFrame s) h⟩
  case addressByte b => exact ⟨_, rfl, k.frame _ _ (takeAddress_unitFrame b s) h⟩
  case frameEnd reads => exact ⟨_, rfl, k.csRises reads h⟩
  case resultByte0Read | resultByte15Read | eventByte0Read | eventByte7Read | spotByte0Read | snapshotLowByteRead =>
    exact ⟨_, rfl, k.readRow _ h⟩
  case stagingByteWrite which v => exact ⟨_, rfl, k.writeRow_beside _ _ (stage_unitFrame which v s) h⟩
  case scanCountWrite v => exact ⟨_, rfl, k.writeRow_beside _ _ (completeScanCount_unitFrame v s) h⟩
  case scanIntervalWrite v => exact ⟨_, rfl, k.writeRow_beside _ _ (completeScanInterval_unitFrame v s) h⟩
  case windowMaxWrite v => exact ⟨_, rfl, k.writeRow_beside _ _ (completeWindowMax_unitFrame v s) h⟩
  case scanCtrlWrite v => exact ⟨_, rfl, k.writeRow_beside _ _ (writeScanCtrl_unitFrame v s) h⟩
  case fifoThresholdWrite v => exact ⟨_, rfl, k.writeRow_beside _ _ (writeFifoThreshold_unitFrame v s) h⟩
  case cacheMaxAgeWrite v => exact ⟨_, rfl, k.writeRow_beside _ _ (writeCacheMaxAge_unitFrame v s) h⟩
  case attnFlagsWrite v => exact ⟨_, rfl, k.writeRow_beside _ _ (clearFlags_unitFrame v s) h⟩
  case attnEnableWrite v => exact ⟨_, rfl, k.writeRow_beside _ _ (setEnables_unitFrame v s) h⟩
  case registerWrite a x => exact ⟨_, rfl, k.accessRow a x h⟩
  case hardReset => exact ⟨_, rfl, k.hardReset _⟩
  case resetRelease => exact ⟨_, rfl, k.rstRises h⟩
  case powerOnReset above => exact ⟨_, rfl, k.supplyCrosses above h⟩
  case trigEdge high => exact ⟨_, rfl, k.trigChanges high h⟩
  case scanTimerUnit => exact ⟨_, rfl, k.unitRow h⟩
  case scanTimerExpiry => exact ⟨_, rfl, k.lfRow _ h⟩
  case grant => exact ⟨_, rfl, k.arbitrate h⟩
  case refSettleExpiry | refTimeout | snsSettleExpiry | firstHalfEnd | windowEnd => exact ⟨_, rfl, k.boundaryRow _ h⟩
  case openingEdge | referenceComplete | sensorOverrange => exact ⟨_, rfl, k.edgeRow _ h⟩
  case heldStartRetry | pendingTriggerStart => exact ⟨_, rfl, guarded_keeps h (k.attemptStart h)⟩
  case heldRecordReoffer => exact ⟨_, rfl, guarded_keeps h (k.reofferRecord h)⟩
  case swap => exact ⟨_, rfl, guarded_keeps h (k.frame s _ ⟨rfl, rfl, id⟩ h)⟩
  case periodBoundary => exact ⟨_, rfl, k.takeBoundary h⟩
  case oscillatorEdge => exact ⟨_, rfl, k.takeEdge h⟩
  case lfPeriodBoundary => exact ⟨_, rfl, k.takeLfBoundary _ h⟩

/-- Every step keeps the law. -/
theorem step {t : State} (h : P s) (e : step s = .next t) : P t := by
  unfold Machine.step at e
  split at e
  · cases e
    exact h
  · next c rest _ =>
    obtain ⟨u, run, hu⟩ := k.exec c (k.frame s { s with pending := rest } ⟨rfl, rfl, id⟩ h)
    cases run.symm.trans e
    exact hu

end UnitInvariant
end Sys2Proof.Machine
end

section
/-! SUPPORT. What the next period boundary and the next oscillator edge are in each phase, what their kind says of the
phase, and what the two that have several outcomes come to (01, sections 1.2 to 1.9). -/

namespace Sys2Proof.Machine

/-! ### By phase -/

section ByPhase
variable {c : ConvUnit}

theorem boundary_idle (p : c.phase = .idle) : c.boundary = .ignored := by
  simp only [ConvUnit.boundary, p]

theorem boundary_refSettle (p : c.phase = .refSettle) :
    c.boundary = if c.wc + 1 < c.ref.settle.toNat then .counted else .refSettleExpiry := by
  simp only [ConvUnit.boundary, p]

theorem boundary_refCount {o : Bool} (p : c.phase = .refCount o) :
    c.boundary = if c.wc + 1 ≤ c.windowLimit.toNat then .counted else .refTimeout := by
  simp only [ConvUnit.boundary, p]

theorem boundary_snsSettle (p : c.phase = .snsSettle) :
    c.boundary = if c.wc + 1 < c.chan.settle.toNat then .counted else .snsSettleExpiry := by
  simp only [ConvUnit.boundary, p]

theorem boundary_firstHalf (p : c.phase = .snsCount) (ac : c.chan.ac = true) :
    c.boundary = if c.wc + 1 < c.w / 2 then .counted else .firstHalfEnd := by
  simp only [ConvUnit.boundary, p, ac, if_true]

theorem boundary_window (p : c.phase = .snsCount ∧ c.chan.ac = false ∨ c.phase = .snsCountB) :
    c.boundary = if c.wc + 1 < c.w then .counted else .windowEnd := by
  rcases p with ⟨p, dc⟩ | p
  · simp only [ConvUnit.boundary, p, dc, Bool.false_eq_true, if_false]
  · simp only [ConvUnit.boundary, p]

theorem edge_idle (p : c.phase = .idle) : c.edge = .ignored := by
  simp only [ConvUnit.edge, p]

theorem edge_settling (p : c.phase = .refSettle ∨ c.phase = .snsSettle) : c.edge = .ignored := by
  rcases p with p | p <;> simp only [ConvUnit.edge, p]

theorem edge_unopened (p : c.phase = .refCount false) : c.edge = .openingEdge := by
  simp only [ConvUnit.edge, p]

theorem edge_opened (p : c.phase = .refCount true) :
    c.edge = if c.mc + 1 < c.request.nRef then .counted else .referenceComplete := by
  simp only [ConvUnit.edge, p]

theorem edge_sensor (p : c.phase = .snsCount ∨ c.phase = .snsCountB) :
    c.edge = if c.mc + 1 ≤ Config.fullScale then .counted else .sensorOverrange := by
  rcases p with p | p <;> simp only [ConvUnit.edge, p]

end ByPhase

/-! ### By kind -/

/-- What the kind of the next period boundary says of the unit (R6, R7, R8, R12, R13). -/
def Boundary.Condition (c : ConvUnit) : Boundary → Prop
  | .ignored => c.phase = .idle
  | .counted =>
    match c.phase with
    | .idle => False
    | .refSettle => c.wc + 1 < c.ref.settle.toNat
    | .refCount _ => c.wc + 1 ≤ c.windowLimit.toNat
    | .snsSettle => c.wc + 1 < c.chan.settle.toNat
    | .snsCount => if c.chan.ac then c.wc + 1 < c.w / 2 else c.wc + 1 < c.w
    | .snsCountB => c.wc + 1 < c.w
  | .refSettleExpiry => c.phase = .refSettle
  | .refTimeout => ∃ o, c.phase = .refCount o
  | .snsSettleExpiry => c.phase = .snsSettle
  | .firstHalfEnd => c.phase = .snsCount ∧ c.chan.ac = true
  | .windowEnd => c.phase = .snsCount ∧ c.chan.ac = false ∨ c.phase = .snsCountB

theorem boundary_condition {c : ConvUnit} {k : Boundary} (next : c.boundary = k) : k.Condition c := by
  subst next
  cases p : c.phase with
  | idle => rw [boundary_idle p]; exact p
  | refSettle => rw [boundary_refSettle p]; split <;> simp [Boundary.Condition, *]
  | refCount o => rw [boundary_refCount p]; split <;> simp [Boundary.Condition, *]
  | snsSettle => rw [boundary_snsSettle p]; split <;> simp [Boundary.Condition, *]
  | snsCount =>
    cases ac : c.chan.ac with
    | true => rw [boundary_firstHalf p ac]; split <;> simp [Boundary.Condition, *]
    | false => rw [boundary_window (.inl ⟨p, ac⟩)]; split <;> simp [Boundary.Condition, *]
  | snsCountB => rw [boundary_window (.inr p)]; split <;> simp [Boundary.Condition, *]

/-- What the kind of the next oscillator edge says of the unit (R6, R8, R9, R12, R14). -/
def Edge.Condition (c : ConvUnit) : Edge → Prop
  | .ignored => c.phase = .idle ∨ c.phase = .refSettle ∨ c.phase = .snsSettle
  | .counted =>
    c.phase = .refCount true ∧ c.mc + 1 < c.request.nRef ∨
    (c.phase = .snsCount ∨ c.phase = .snsCountB) ∧ c.mc + 1 ≤ Config.fullScale
  | .openingEdge => c.phase = .refCount false
  | .referenceComplete => c.phase = .refCount true
  | .sensorOverrange => c.phase = .snsCount ∨ c.phase = .snsCountB

theorem edge_condition {c : ConvUnit} {k : Edge} (next : c.edge = k) : k.Condition c := by
  subst next
  cases p : c.phase with
  | idle => rw [edge_idle p]; exact .inl p
  | refSettle => rw [edge_settling (.inl p)]; exact .inr (.inl p)
  | refCount opened =>
    cases opened with
    | false => rw [edge_unopened p]; exact p
    | true => rw [edge_opened p]; split <;> simp [Edge.Condition, *]
  | snsSettle => rw [edge_settling (.inr p)]; exact .inr (.inr p)
  | snsCount => rw [edge_sensor (.inl p)]; split <;> simp [Edge.Condition, *]
  | snsCountB => rw [edge_sensor (.inr p)]; split <;> simp [Edge.Condition, *]

/-! ### The window's end and the reference's completion -/

/-- The unit with the period boundary counted (R6, R7, R8, R12). -/
def ConvUnit.periodCounted (c : ConvUnit) : ConvUnit := { c with wc := c.wc + 1 }

section WindowEnds
variable {s : State}

/-- A count below the min count ends the measurement (R15). -/
theorem windowEnds_under (under : s.conv.mc < s.conv.chan.minCount.toNat) :
    windowEnds s =
      ({ s with conv := s.conv.periodCounted }, some (s.conv.periodCounted.failed .sensorUnderrange)) :=
  if_pos under

/-- A good repetition that is not the last is followed by the next (R16). -/
theorem windowEnds_next (good : s.conv.chan.minCount.toNat ≤ s.conv.mc)
    (more : s.conv.repIndex < s.conv.request.reps) :
    windowEnds s = ({ s with conv :=
      { s.conv.periodCounted.goodRepetition with repIndex := s.conv.repIndex + 1 }.enterSnsCount }, none) :=
  (if_neg (Nat.not_lt.2 good)).trans (if_pos more)

/-- The last good repetition completes the measurement (R18). -/
theorem windowEnds_last (good : s.conv.chan.minCount.toNat ≤ s.conv.mc)
    (last : s.conv.request.reps ≤ s.conv.repIndex) :
    windowEnds s = ({ s with conv := s.conv.periodCounted.goodRepetition.clipped },
      some s.conv.periodCounted.goodRepetition.completed) :=
  (if_neg (Nat.not_lt.2 good)).trans (if_neg (Nat.not_lt.2 last))

/-- A law of the unit holds after a window's end where it holds after each of the three outcomes. -/
theorem windowEnds_keeps {P : State × Option Result → Prop}
    (under : P ({ s with conv := s.conv.periodCounted }, some (s.conv.periodCounted.failed .sensorUnderrange)))
    (next : s.conv.repIndex < s.conv.request.reps → P ({ s with conv :=
      { s.conv.periodCounted.goodRepetition with repIndex := s.conv.repIndex + 1 }.enterSnsCount }, none))
    (last : P ({ s with conv := s.conv.periodCounted.goodRepetition.clipped },
      some s.conv.periodCounted.goodRepetition.completed)) : P (windowEnds s) := by
  rcases Nat.lt_or_ge s.conv.mc s.conv.chan.minCount.toNat with short | good
  · rwa [windowEnds_under short]
  · rcases Nat.lt_or_ge s.conv.repIndex s.conv.request.reps with more | none
    · rw [windowEnds_next good more]
      exact next more
    · rwa [windowEnds_last good none]

/-- A window of at least 16 goes on to the sensor, and is stored where the generation still matches (R9, R10, R11). -/
theorem referenceCompletes_long (long : Config.minWindow ≤ s.conv.wc) :
    referenceCompletes s =
      ({ s with
        conv := { s.conv with mc := s.conv.mc + 1, window := some s.conv.wc }.enterSnsSettle
        cache := if s.generationKept then
            s.cache.store s.conv.request.reference s.conv.request.target s.conv.wc else s.cache }, none) :=
  if_pos long

/-- A shorter window ends the measurement (R9, R10). -/
theorem referenceCompletes_short (short : s.conv.wc < Config.minWindow) :
    referenceCompletes s =
      ({ s with
        conv := { s.conv with mc := s.conv.mc + 1, window := some s.conv.wc }
        cache := s.cache.invalidateKey s.conv.request.reference s.conv.request.target },
        some ({ s.conv with mc := s.conv.mc + 1, window := some s.conv.wc }.failed .windowShort)) :=
  if_neg (Nat.not_le.2 short)

end WindowEnds

end Sys2Proof.Machine
end

section
/-! SUPPORT. The unit with its holder and the oscillator loop (R1, R4). -/

namespace Sys2Proof.Machine

/-- What R1 puts into the oscillator loop in each phase, and with which polarity. -/
def ConvUnit.loop (c : ConvUnit) : OscSel × Polarity :=
  match c.phase with
  | .idle => (.parked, .a)
  | .refSettle | .refCount _ => (.reference c.request.reference, .a)
  | .snsSettle | .snsCount => (.channel c.request.channel, .a)
  | .snsCountB => (.channel c.request.channel, .b)

/-- The holder, the owner and the phase agree (R4), and the oscillator loop is the phase's (R1). -/
structure UnitLaw (s : State) : Prop where
  holder : s.arb.holder = none ↔ s.conv.phase = .idle
  owner : s.conv.owner = s.arb.holder
  loop : (s.conv.osc, s.conv.polarity) = s.conv.loop

/-- The excitation lines need no law of their own: they are the polarity in the sensor phases and idle elsewhere. -/
theorem oscillatorFollowsPhase_iff (s : State) :
    OscillatorFollowsPhase s ↔ (s.conv.osc, s.conv.polarity) = s.conv.loop := by
  unfold OscillatorFollowsPhase State.excitation ConvUnit.loop
  cases s.conv.phase <;> simp

theorem unitLaw_iff (s : State) : UnitLaw s ↔ HolderMatchesUnit s ∧ OscillatorFollowsPhase s := by
  rw [oscillatorFollowsPhase_iff]
  exact ⟨fun h => ⟨⟨h.holder, h.owner⟩, h.loop⟩, fun ⟨⟨holder, owner⟩, loop⟩ => ⟨holder, owner, loop⟩⟩

/-! ### What keeps the law -/

theorem unitLaw_frame {s t : State} (f : UnitFrame s t) (h : UnitLaw s) : UnitLaw t := by
  obtain ⟨holder, owner, loop⟩ := h
  constructor
  · rwa [f.holder, f.conv]
  · rwa [f.holder, f.conv]
  · rwa [f.conv]

/-- A unit in IDLE meets the law, whatever went before (R1, R4). -/
theorem unitLaw_parkUnit (s : State) : UnitLaw (parkUnit s) := ⟨⟨fun _ => rfl, fun _ => rfl⟩, rfl, rfl⟩

/-- A unit that serves its holder. -/
theorem unitLaw_serving {s : State} {who : Requester} (holder : s.arb.holder = some who)
    (owner : s.conv.owner = some who) (busy : s.conv.phase ≠ .idle)
    (loop : (s.conv.osc, s.conv.polarity) = s.conv.loop) : UnitLaw s :=
  ⟨⟨fun free => (Option.some_ne_none who (holder.symm.trans free)).elim, fun idle => (busy idle).elim⟩,
    owner.trans holder.symm, loop⟩

/-- A unit that serves goes from phase to phase with its owner. -/
theorem UnitLaw.next {s t : State} (h : UnitLaw s) (busy : s.conv.phase ≠ .idle) (holder : t.arb.holder = s.arb.holder)
    (owner : t.conv.owner = s.conv.owner) (busy' : t.conv.phase ≠ .idle)
    (loop : (t.conv.osc, t.conv.polarity) = t.conv.loop) : UnitLaw t := by
  obtain ⟨who, held⟩ := Option.ne_none_iff_exists'.1 (fun e => busy (h.holder.1 e))
  exact unitLaw_serving (holder.trans held) (owner.trans (h.owner.trans held)) busy' loop

/-- The reference phase begins in one of its two steps (R6). -/
theorem enterRefSettle_phase (c : ConvUnit) :
    c.enterRefSettle.phase = .refSettle ∨ c.enterRefSettle.phase = .refCount false := by
  unfold ConvUnit.enterRefSettle
  split
  · exact .inr rfl
  · exact .inl rfl

theorem enterRefSettle_loop (c : ConvUnit) :
    (c.enterRefSettle.osc, c.enterRefSettle.polarity) = c.enterRefSettle.loop := by
  unfold ConvUnit.enterRefSettle
  split <;> rfl

theorem enterRefSettle_owner (c : ConvUnit) : c.enterRefSettle.owner = c.owner := by
  unfold ConvUnit.enterRefSettle
  split <;> rfl

theorem takeGrant_holder (who : Requester) (s : State) : (takeGrant who s).arb.holder = some who := by
  cases who <;> rfl

theorem unitLaw_grants (who : Requester) (q : Request) (s : State) :
    UnitLaw (parkIfEnded (grantUnit who q (takeGrant who s))) := by
  have held := takeGrant_holder who s
  rcases grantUnit_cases who q (takeGrant who s) with ⟨-, g⟩ | ⟨-, g⟩ <;> rw [g]
  · show UnitLaw (cacheStep _)
    rcases cacheStep_cases { takeGrant who s with conv := beginMeasurement who q (takeGrant who s) } with
      e | ⟨slot, -, -, e⟩ <;> rw [e]
    · refine unitLaw_serving held (enterRefSettle_owner _) ?_ (enterRefSettle_loop _)
      rcases enterRefSettle_phase (beginMeasurement who q (takeGrant who s)) with p | p <;> rw [p] <;> simp
    · exact unitLaw_serving held rfl (by simp [ConvUnit.enterSnsSettle]) rfl
  · exact unitLaw_parkUnit _

theorem unitLaw_boundary (s : State) (h : UnitLaw s) : UnitLaw (parkIfEnded (boundaryOutcome s.conv.boundary s)) := by
  rcases eq_or_ne s.conv.phase .idle with idle | busy
  · rw [boundary_idle idle]
    exact h
  · cases s.conv.boundary with
    | ignored => exact h
    | counted => exact h.next busy rfl rfl busy h.loop
    | refSettleExpiry => exact h.next busy rfl rfl nofun rfl
    | refTimeout => exact unitLaw_parkUnit _
    | snsSettleExpiry => exact h.next busy rfl rfl nofun rfl
    | firstHalfEnd => exact h.next busy rfl rfl nofun rfl
    | windowEnd =>
      exact windowEnds_keeps (P := fun out => UnitLaw (parkIfEnded out)) (unitLaw_parkUnit _)
        (fun _ => h.next busy rfl rfl nofun rfl) (unitLaw_parkUnit _)

theorem unitLaw_edge (s : State) (h : UnitLaw s) : UnitLaw (parkIfEnded (edgeOutcome s.conv.edge s)) := by
  rcases eq_or_ne s.conv.phase .idle with idle | busy
  · rw [edge_idle idle]
    exact h
  · cases kind : s.conv.edge with
    | ignored => exact h
    | counted => exact h.next busy rfl rfl busy h.loop
    | openingEdge =>
      have loop := h.loop
      simp only [ConvUnit.loop, show s.conv.phase = _ from edge_condition kind] at loop
      exact h.next busy rfl rfl nofun loop
    | referenceComplete =>
      show UnitLaw (parkIfEnded (referenceCompletes s))
      rcases Nat.lt_or_ge s.conv.wc Config.minWindow with short | long
      · rw [referenceCompletes_short short]
        exact unitLaw_parkUnit _
      · rw [referenceCompletes_long long]
        exact h.next busy rfl rfl nofun rfl
    | sensorOverrange => exact unitLaw_parkUnit _

theorem unitLaw_invariant : UnitInvariant UnitLaw where
  frame _ _ := unitLaw_frame
  parks s _ := unitLaw_parkUnit s
  grants s who q _ _ := unitLaw_grants who q s
  boundary := unitLaw_boundary
  edge := unitLaw_edge
  engineReset _ _ := ⟨⟨fun _ => rfl, fun _ => rfl⟩, rfl, rfl⟩
  hardReset _ := ⟨⟨fun _ => rfl, fun _ => rfl⟩, rfl, rfl⟩

/-- Settles O52: the laws of R1 and R4 in one, carried through the step by the principle of the unit's laws. -/
theorem stepKeepsUnitLaws : Obligations.StepKeepsUnitLaws := by
  intro s t holder follows run
  exact (unitLaw_iff t).1 (unitLaw_invariant.step ((unitLaw_iff s).2 ⟨holder, follows⟩) run)

end Sys2Proof.Machine
end

section
/-! SUPPORT. The ranges of the registers and of the unit's counters (01 section 1.1, R10, R28, R36, R39, R65, R130,
R173, R177). -/

namespace Sys2Proof.Machine

/-- The ranges that do not depend on the phase. -/
structure UnitBounds (c : ConvUnit) : Prop where
  mc : c.mc ≤ Config.fullScale
  wc : c.wc ≤ Config.fullScale
  w : c.w ≤ Config.fullScale
  first : 1 ≤ c.repIndex
  last : c.repIndex ≤ c.request.reps
  total : c.acc ≤ 8 * Config.fullScale
  minCount : c.chan.minCount ≠ 0

/-- The ranges of the unit: those of every phase, S within what the repetitions before this one can add up to while a
measurement is in progress, and the phase's own. -/
structure UnitRanges (c : ConvUnit) : Prop extends UnitBounds c where
  sum : c.phase ≠ .idle → c.acc ≤ (c.repIndex - 1) * Config.fullScale
  phase : PhaseLaw c

/-- All ranges of the part. -/
structure RangeLaw (s : State) : Prop where
  stored : StoredRanges s
  unit : UnitRanges s.conv

theorem rangeLaw_iff (s : State) : RangeLaw s ↔ RegisterLaw s ∧ CounterLaw s := by
  constructor
  · rintro ⟨⟨ht, ha, hw, hi, hk, hr, hm, windows⟩, ⟨mc, wc, w, first, last, total, minCount⟩, sum, phase⟩
    exact ⟨⟨ht, ha, hw, hi, hk, hr, hm, minCount⟩, ⟨mc, wc, w⟩, ⟨first, last⟩, total, sum, phase, windows⟩
  · rintro ⟨⟨ht, ha, hw, hi, hk, hr, hm, minCount⟩, ⟨mc, wc, w⟩, ⟨first, last⟩, total, sum, phase, windows⟩
    exact ⟨⟨ht, ha, hw, hi, hk, hr, hm, windows⟩, ⟨mc, wc, w, first, last, total, minCount⟩, sum, phase⟩

/-! ### Bounds of a request -/

/-- At most eight repetitions (00_scope, repeat codes). -/
theorem reps_le (q : Request) : q.reps ≤ 8 := by
  have := Nat.pow_le_pow_right (n := 2) (by decide) (Nat.le_of_lt_succ q.repeatCode.isLt)
  simpa [Request.reps] using this

theorem one_le_reps (q : Request) : 1 ≤ q.reps := Nat.one_le_two_pow

/-- N_ref stays far below full scale (00_scope, target codes). -/
theorem nRef_le (q : Request) : q.nRef ≤ 1048576 := by
  have := Nat.pow_le_pow_right (n := 2) (by decide) (Nat.le_of_lt_succ q.target.isLt)
  simp only [Request.nRef]
  omega

theorem nRef_pos (q : Request) : 0 < q.nRef := by simp [Request.nRef]

theorem windowLimit_le (c : ConvUnit) : c.windowLimit.toNat ≤ Config.fullScale := Nat.le_of_lt_succ c.windowLimit.isLt

/-! ### The unit's moves -/

/-- At the return to IDLE only the ranges of every phase remain. -/
theorem UnitBounds.park {c : ConvUnit} (h : UnitBounds c) : UnitRanges c.park where
  mc := h.mc
  wc := h.wc
  w := h.w
  first := h.first
  last := h.last
  total := h.total
  minCount := h.minCount
  sum := fun busy => (busy rfl).elim
  phase := trivial

/-- A counted boundary (R6, R7, R8, R12, R13). -/
theorem unitRanges_counted {c : ConvUnit} (h : UnitRanges c) (next : c.boundary = .counted) :
    UnitRanges c.periodCounted := by
  have settle := c.ref.settle.isLt
  have settle' := c.chan.settle.isLt
  have limit := windowLimit_le c
  have w := h.w
  have law := h.phase
  have bound := boundary_condition next
  refine { h with wc := ?_, phase := ?_ }
  · simp only [ConvUnit.periodCounted, Config.fullScale] at *
    cases p : c.phase <;> simp only [Boundary.Condition, p] at bound <;> grind
  · cases p : c.phase <;>
      simp only [Boundary.Condition, PhaseLaw, ConvUnit.periodCounted, p] at bound law ⊢ <;> grind [ConvUnit.w]

/-- A counted edge (R9, R14). -/
theorem unitRanges_countedEdge {c : ConvUnit} (h : UnitRanges c) (next : c.edge = .counted) :
    UnitRanges { c with mc := c.mc + 1 } := by
  have nRef := nRef_le c.request
  have law := h.phase
  rcases edge_condition next with ⟨p, below⟩ | ⟨p | p, below⟩ <;> simp only [PhaseLaw, p] at law
  · refine { h with mc := ?_, phase := ?_ }
    · simp only [Config.fullScale]
      omega
    · simp only [PhaseLaw, p]
      exact ⟨law.1, fun _ => below⟩
  · refine { h with mc := below, phase := ?_ }
    simp only [PhaseLaw, p]
    exact law
  · obtain ⟨long, inside, half⟩ := law
    refine { h with mc := below, phase := ?_ }
    simp only [PhaseLaw, p]
    exact ⟨long, inside, Nat.le_succ_of_le half⟩

section Entering
variable {c : ConvUnit} (h : UnitBounds c) (sum : c.acc ≤ (c.repIndex - 1) * Config.fullScale)
include h sum

theorem unitRanges_enterRefCount (fresh : c.window = none) : UnitRanges c.enterRefCount :=
  { h with mc := Nat.zero_le _, wc := Nat.zero_le _, sum := fun _ => sum, phase := ⟨fresh, nofun⟩ }

theorem unitRanges_enterRefSettle (fresh : c.window = none) : UnitRanges c.enterRefSettle := by
  unfold ConvUnit.enterRefSettle
  split
  · exact unitRanges_enterRefCount h sum fresh
  · exact { h with mc := Nat.zero_le _, wc := Nat.zero_le _, sum := fun _ => sum, phase := fresh }

theorem unitRanges_enterSnsSettle (long : Config.minWindow ≤ c.w) : UnitRanges c.enterSnsSettle :=
  { h with mc := Nat.zero_le _, wc := Nat.zero_le _, sum := fun _ => sum, phase := long }

theorem unitRanges_enterSnsCount (long : Config.minWindow ≤ c.w) : UnitRanges c.enterSnsCount := by
  refine { h with mc := Nat.zero_le _, wc := Nat.zero_le _, sum := fun _ => sum, phase := ⟨long, ?_, fun _ => ?_⟩ } <;>
    simp only [ConvUnit.w, ConvUnit.enterSnsCount, Config.minWindow] at long ⊢ <;> omega

end Entering

/-- The opening edge (R8). -/
theorem unitRanges_opened {c : ConvUnit} (h : UnitRanges c) (next : c.edge = .openingEdge) :
    UnitRanges { c with phase := .refCount true, mc := 0, wc := 0 } := by
  have p : c.phase = .refCount false := edge_condition next
  have law := h.phase
  simp only [PhaseLaw, p] at law
  exact { h with
    mc := Nat.zero_le _, wc := Nat.zero_le _, sum := fun _ => h.sum (by simp [p])
    phase := ⟨law.1, fun _ => nRef_pos c.request⟩ }

/-- The first half of an AC window ends half-way through it (R13). -/
theorem unitRanges_enterSnsCountB {c : ConvUnit} (h : UnitRanges c) (next : c.boundary = .firstHalfEnd) :
    UnitRanges c.enterSnsCountB := by
  obtain ⟨p, ac⟩ := boundary_condition next
  have law := h.phase
  simp only [PhaseLaw, p] at law
  obtain ⟨long, -, first⟩ := law
  have inside : c.wc + 1 < c.w := by
    have := first ac
    simp only [Config.minWindow] at long
    omega
  exact { h with
    wc := (Nat.le_of_lt inside).trans h.w, sum := fun _ => h.sum (by simp [p])
    phase := ⟨long, inside, Nat.le_refl _⟩ }

/-- A counted period stays within full scale where a window is being measured (R12, R13). -/
theorem unitBounds_periodCounted {c : ConvUnit} (h : UnitRanges c) (next : c.boundary = .windowEnd) :
    UnitBounds c.periodCounted ∧ Config.minWindow ≤ c.w ∧ c.acc ≤ (c.repIndex - 1) * Config.fullScale := by
  have law := h.phase
  rcases boundary_condition next with ⟨p, -⟩ | p <;> simp only [PhaseLaw, p] at law <;>
    obtain ⟨long, inside, -⟩ := law <;>
    exact ⟨{ h with wc := inside.trans_le h.w }, long, h.sum (by simp [p])⟩

/-- A good repetition adds at most full scale to S (R15). -/
theorem unitBounds_goodRepetition {c : ConvUnit} (h : UnitBounds c)
    (sum : c.acc ≤ (c.repIndex - 1) * Config.fullScale) :
    UnitBounds c.goodRepetition ∧ c.goodRepetition.acc ≤ c.repIndex * Config.fullScale := by
  have reps := h.last.trans (reps_le c.request)
  have first := h.first
  have mc := h.mc
  have added : c.acc + c.mc ≤ c.repIndex * Config.fullScale := by
    simp only [Config.fullScale] at *
    omega
  exact ⟨{ h with total := added.trans (Nat.mul_le_mul_right _ reps) }, added⟩

/-- Clipping changes the warnings alone (R18). -/
theorem unitBounds_clipped {c : ConvUnit} (h : UnitBounds c) : UnitBounds c.clipped := by
  unfold ConvUnit.clipped
  split
  · exact { h with }
  · exact h

/-! ### What keeps the law -/

theorem rangeLaw_frame {s t : State} (f : UnitFrame s t) (h : RangeLaw s) : RangeLaw t :=
  ⟨f.ranges h.stored, f.conv ▸ h.unit⟩

/-- A change of the unit alone. -/
theorem RangeLaw.withConv {s : State} (h : RangeLaw s) {c : ConvUnit} (hc : UnitRanges c) :
    RangeLaw { s with conv := c } := ⟨h.stored, hc⟩

/-- The end of a measurement keeps only the ranges of every phase (R4). -/
theorem rangeLaw_parkUnit {s : State} (stored : StoredRanges s) (bounds : UnitBounds s.conv) : RangeLaw (parkUnit s) :=
  ⟨stored, bounds.park⟩

/-- A step of the unit that ends the measurement (R4). -/
theorem rangeLaw_ended {s : State} (stored : StoredRanges s) {c : ConvUnit} (bounds : UnitBounds c) (r : Result) :
    RangeLaw (parkIfEnded ({ s with conv := c }, some r)) := ⟨stored, bounds.park⟩

/-- A unit as a grant leaves it before the checks (R2). -/
theorem unitBounds_beginMeasurement (who : Requester) (q : Request) {s : State} (h : RangeLaw s) :
    UnitBounds (beginMeasurement who q s) := by
  exact ⟨Nat.zero_le _, Nat.zero_le _, Nat.zero_le _, Nat.le_refl _, one_le_reps q, Nat.zero_le _,
    h.stored.minCounts q.channel⟩

theorem takeGrant_rangeLaw (who : Requester) {s : State} (h : RangeLaw s) : RangeLaw (takeGrant who s) := by
  cases who <;> exact ⟨h.stored, h.unit⟩

theorem rangeLaw_grants (who : Requester) (q : Request) (s : State) (h : RangeLaw s) :
    RangeLaw (parkIfEnded (grantUnit who q (takeGrant who s))) := by
  have granted := takeGrant_rangeLaw who h
  have bounds := unitBounds_beginMeasurement who q granted
  rcases grantUnit_cases who q (takeGrant who s) with ⟨-, g⟩ | ⟨-, g⟩ <;> rw [g]
  · show RangeLaw (cacheStep _)
    rcases cacheStep_cases { takeGrant who s with conv := beginMeasurement who q (takeGrant who s) } with
      e | ⟨slot, -, hit, e⟩ <;> rw [e]
    · exact granted.withConv (unitRanges_enterRefSettle bounds (Nat.zero_le _) rfl)
    · have held : slot ∈ (takeGrant who s).cache.slots := List.mem_of_find?_eq_some hit
      obtain ⟨long, short⟩ := granted.stored.windows slot held
      refine rangeLaw_frame (slots_unitFrame { takeGrant who s with conv := _ } _ fun e he => ?_)
        (granted.withConv (unitRanges_enterSnsSettle (c := { beginMeasurement who q (takeGrant who s) with
          window := some slot.window, warnings := { Warnings.none with cached := true } })
          { bounds with w := short } (Nat.zero_le _) long))
      rcases List.mem_cons.1 he with rfl | he
      · exact held
      · exact (List.mem_filter.1 he).1
  · exact rangeLaw_parkUnit granted.stored bounds

theorem rangeLaw_invalidateKey (r : Fin 4) (k : Fin 13) (s : State) (h : RangeLaw s) :
    RangeLaw { s with cache := s.cache.invalidateKey r k } :=
  rangeLaw_frame (slots_unitFrame s (dropKey r k s.cache.slots) fun _ he => (List.mem_filter.1 he).1) h

theorem rangeLaw_boundary (s : State) (h : RangeLaw s) :
    RangeLaw (parkIfEnded (boundaryOutcome s.conv.boundary s)) := by
  have law := h.unit.phase
  cases next : s.conv.boundary with
  | ignored => exact h
  | counted => exact h.withConv (unitRanges_counted h.unit next)
  | refSettleExpiry =>
    have p : s.conv.phase = .refSettle := boundary_condition next
    simp only [PhaseLaw, p] at law
    exact h.withConv (unitRanges_enterRefCount h.unit.toUnitBounds (h.unit.sum (by simp [p])) law)
  | refTimeout => exact rangeLaw_parkUnit (rangeLaw_invalidateKey _ _ s h).stored h.unit.toUnitBounds
  | snsSettleExpiry =>
    have p : s.conv.phase = .snsSettle := boundary_condition next
    simp only [PhaseLaw, p] at law
    exact h.withConv (unitRanges_enterSnsCount h.unit.toUnitBounds (h.unit.sum (by simp [p])) law)
  | firstHalfEnd => exact h.withConv (unitRanges_enterSnsCountB h.unit next)
  | windowEnd =>
    obtain ⟨bounds, long, sum⟩ := unitBounds_periodCounted h.unit next
    obtain ⟨good, added⟩ := unitBounds_goodRepetition bounds sum
    refine windowEnds_keeps (P := fun out => RangeLaw (parkIfEnded out)) ?_ (fun more => ?_) ?_
    · exact rangeLaw_ended h.stored bounds _
    · have sum' : s.conv.periodCounted.goodRepetition.acc ≤ (s.conv.repIndex + 1 - 1) * Config.fullScale := by
        rwa [Nat.add_sub_cancel]
      exact h.withConv (unitRanges_enterSnsCount { good with first := Nat.le_add_left 1 _, last := more } sum' long)
    · exact rangeLaw_ended h.stored (unitBounds_clipped good) _

theorem rangeLaw_edge (s : State) (h : RangeLaw s) : RangeLaw (parkIfEnded (edgeOutcome s.conv.edge s)) := by
  cases next : s.conv.edge with
  | ignored => exact h
  | counted => exact h.withConv (unitRanges_countedEdge h.unit next)
  | openingEdge => exact h.withConv (unitRanges_opened h.unit next)
  | referenceComplete =>
    have p : s.conv.phase = .refCount true := edge_condition next
    have law := h.unit.phase
    simp only [PhaseLaw, p] at law
    have mc : s.conv.mc + 1 ≤ Config.fullScale := (law.2 trivial).trans_le ((nRef_le s.conv.request).trans (by decide))
    have bounds : UnitBounds { s.conv with mc := s.conv.mc + 1, window := some s.conv.wc } :=
      { h.unit with mc := mc, w := h.unit.wc }
    show RangeLaw (parkIfEnded (referenceCompletes s))
    rcases Nat.lt_or_ge s.conv.wc Config.minWindow with short | long
    · rw [referenceCompletes_short short]
      exact rangeLaw_parkUnit (rangeLaw_invalidateKey _ _ s h).stored bounds
    · rw [referenceCompletes_long long]
      refine ⟨?_, unitRanges_enterSnsSettle bounds (h.unit.sum (by simp [p])) long⟩
      show StoredRanges { s with cache := if _ then _ else _ }
      split
      · exact (store_unitFrame s _ _ _ ⟨long, h.unit.wc⟩).ranges h.stored
      · exact h.stored
  | sensorOverrange => exact rangeLaw_parkUnit h.stored h.unit.toUnitBounds

/-- The unit after either reset (R26). -/
theorem unitRanges_reset : UnitRanges ConvUnit.reset :=
  ⟨by constructor <;> decide, by decide, trivial⟩

theorem rangeLaw_engineReset (s : State) (h : RangeLaw s) : RangeLaw (engineReset s) := by
  refine ⟨?_, unitRanges_reset⟩
  obtain ⟨ht, ha, hw, hi, -, -, hm, -⟩ := h.stored
  exact ⟨ht, ha, hw, hi, Nat.zero_le _, Nat.zero_le _, hm, nofun⟩

theorem storedRanges_reset : StoredRanges State.reset :=
  ⟨by decide, by decide, by decide, by decide, by decide, by decide, by decide, nofun⟩

theorem rangeLaw_invariant : UnitInvariant RangeLaw where
  frame _ _ := rangeLaw_frame
  parks _ h := rangeLaw_parkUnit h.stored h.unit.toUnitBounds
  grants s who q _ := rangeLaw_grants who q s
  boundary := rangeLaw_boundary
  edge := rangeLaw_edge
  engineReset := rangeLaw_engineReset
  hardReset _ := ⟨storedRanges_reset, unitRanges_reset⟩

/-- Settles O59: the ranges in one law, carried through the step by the principle of the unit's laws. -/
theorem stepKeepsRanges : Obligations.StepKeepsRanges := by
  intro s t registers counters run
  exact (rangeLaw_iff t).1 (rangeLaw_invariant.step ((rangeLaw_iff s).2 ⟨registers, counters⟩) run)

end Sys2Proof.Machine
end

section
/-! SUPPORT. The measurement cycle row by row (01, sections 1.2 to 1.9), the end of a measurement, and the laws at
reset. -/

namespace Sys2Proof.Machine

/-- Settles O7: State.reset is plain data, so each law is evaluated, that of the ranges through the law of the unit. -/
theorem lawsHoldAtReset : Obligations.LawsHoldAtReset := by
  obtain ⟨holder, follows⟩ := (unitLaw_iff State.reset).1 (unitLaw_invariant.hardReset State.reset)
  obtain ⟨registers, counters⟩ := (rangeLaw_iff State.reset).1 (rangeLaw_invariant.hardReset State.reset)
  refine ⟨holder, follows, ?_, ?_, ?_, ?_, ?_, ?_, ?_, ?_, ?_, registers, counters, ?_, ?_, ?_, ?_, ?_⟩ <;> decide

/-! ### The ends of measurements -/

/-- A measurement that ends for the spot (R4, R106). -/
theorem finish_spot (r : Result) (s : State) (owner : s.conv.owner = some .spot) :
    finish r s = arbitrate (s.unitReleased.spotEnded r) := by
  unfold finish
  rw [owner]
  rfl

/-- The scan takes its result in SCANNING (R79 to R89). -/
theorem takeScanResult_eq (r : Result) (s : State) (scanning : s.ctl.state = .scanning) :
    takeScanResult r s = (offerAndFlag (s.measurement r) s).recordOffered (s.measurement r) := by
  rw [takeScanResult, if_pos scanning, handleRecord_eq, buildRecord_eq]

/-- A measurement that ends for the scan (R4, R80). -/
theorem finish_scan (r : Result) (s : State) (owner : s.conv.owner = some .scan) (scanning : s.ctl.state = .scanning) :
    finish r s = arbitrate
      ((offerAndFlag (s.measurement r) s.unitReleased).recordOffered (s.measurement r)) := by
  have released : (parkUnit s).ctl.state = .scanning := scanning
  unfold finish
  rw [owner]
  exact congrArg arbitrate (takeScanResult_eq r (parkUnit s) released)

/-- Settles O46: the end of a spot's measurement is the arbiter's decision on the released state. -/
theorem spotTakesItsResult : Obligations.SpotTakesItsResult := by
  intro r s owner
  exact congrArg Host.Outcome.next (finish_spot r s owner).symm

/-- Settles O47: the end of a scan's measurement is the arbiter's decision on the state with its record offered. -/
theorem scanTakesItsResult : Obligations.ScanTakesItsResult := by
  intro r s owner scanning
  exact congrArg Host.Outcome.next (finish_scan r s owner scanning).symm

/-! ### Boundaries and edges by phase -/

/-- The row of the next boundary's kind takes it (log 3). -/
theorem boundaryRow_taken {k : Boundary} {s : State} (h : s.conv.boundary = k) : boundaryRow k s = takeBoundary k s :=
  if_pos h

/-- The row of the next edge's kind takes it (log 3). -/
theorem edgeRow_taken {k : Edge} {s : State} (h : s.conv.edge = k) : edgeRow k s = takeEdge k s := if_pos h

/-- A phase in which boundaries are counted up to one of the kind `k`. -/
theorem execPeriodBoundary_of {p : Prop} [Decidable p] {k : Boundary} {s : State}
    (h : s.conv.boundary = if p then .counted else k) :
    execPeriodBoundary s = if p then .next (countPeriod s) else .next (boundaryRow k s) := by
  unfold execPeriodBoundary
  split
  · next hp =>
    rw [if_pos hp] at h
    rw [h]
    rfl
  · next hp =>
    rw [if_neg hp] at h
    rw [boundaryRow_taken h, h]

/-- A phase in which edges are counted up to one of the kind `k`. -/
theorem execOscillatorEdge_of {p : Prop} [Decidable p] {k : Edge} {s : State}
    (h : s.conv.edge = if p then .counted else k) :
    execOscillatorEdge s = if p then .next (countEdge s) else .next (edgeRow k s) := by
  unfold execOscillatorEdge
  split
  · next hp =>
    rw [if_pos hp] at h
    rw [h]
    rfl
  · next hp =>
    rw [if_neg hp] at h
    rw [edgeRow_taken h, h]

theorem execPeriodBoundary_ignored {s : State} (h : s.conv.boundary = .ignored) : execPeriodBoundary s = .next s := by
  rw [execPeriodBoundary, h]
  rfl

theorem execOscillatorEdge_ignored {s : State} (h : s.conv.edge = .ignored) : execOscillatorEdge s = .next s := by
  rw [execOscillatorEdge, h]
  rfl

/-- Settles O41: in each phase the next boundary and the next edge are counted up to the bound of the phase. -/
theorem phasesCountPeriodsAndEdges : Obligations.PhasesCountPeriodsAndEdges := by
  intro s
  refine ⟨fun p => ?_, fun p => ?_, fun o p => ?_, fun p => ?_, fun p => ?_, fun p => ?_, fun p => ?_, fun p ac => ?_,
    fun p => ?_⟩
  · exact ⟨execPeriodBoundary_ignored (boundary_idle p), execOscillatorEdge_ignored (edge_idle p)⟩
  · exact ⟨execOscillatorEdge_ignored (edge_settling (.inl p)), execPeriodBoundary_of (boundary_refSettle p)⟩
  · exact execPeriodBoundary_of (boundary_refCount p)
  · have opening := edge_unopened p
    show Host.Outcome.next (takeEdge s.conv.edge s) = .next (edgeRow .openingEdge s)
    rw [edgeRow_taken opening, opening]
  · exact execOscillatorEdge_of (edge_opened p)
  · exact ⟨execOscillatorEdge_ignored (edge_settling (.inr p)), execPeriodBoundary_of (boundary_snsSettle p)⟩
  · exact execOscillatorEdge_of (edge_sensor p)
  · exact execPeriodBoundary_of (boundary_firstHalf p ac)
  · exact execPeriodBoundary_of (boundary_window p)

/-- A row of a boundary that has come, as its step. -/
theorem boundaryRow_next {k : Boundary} {s : State} (h : s.conv.boundary = k) :
    Host.Outcome.next (φ := Fault) (ρ := Refusal) (boundaryRow k s) = .next (settleUnit (boundaryOutcome k s)) := by
  rw [boundaryRow_taken h, takeBoundary_eq]

/-- A row of an edge that has come, as its step. -/
theorem edgeRow_next {k : Edge} {s : State} (h : s.conv.edge = k) :
    Host.Outcome.next (φ := Fault) (ρ := Refusal) (edgeRow k s) = .next (settleUnit (edgeOutcome k s)) := by
  rw [edgeRow_taken h, takeEdge_eq]

/-- Settles O42: each bound that is reached enters the next phase. -/
theorem phasesFollowOneAnother : Obligations.PhasesFollowOneAnother := by
  intro s
  refine ⟨fun p bound => ?_, fun p => ?_, fun p bound => ?_, fun p ac bound => ?_⟩
  · exact boundaryRow_next ((boundary_refSettle p).trans (if_neg (Nat.not_lt.2 bound)))
  · exact edgeRow_next (edge_unopened p)
  · exact boundaryRow_next ((boundary_snsSettle p).trans (if_neg (Nat.not_lt.2 bound)))
  · exact boundaryRow_next ((boundary_firstHalf p ac).trans (if_neg (Nat.not_lt.2 bound)))

/-- Settles O43: the two outcomes of the N_ref-th edge, the first split by the reference's generation. -/
theorem referenceCompletionSetsTheWindow : Obligations.ReferenceCompletionSetsTheWindow := by
  intro s p bound
  have complete := edgeRow_next ((edge_opened p).trans (if_neg (Nat.not_lt.2 bound)))
  refine ⟨fun long kept => ?_, fun long stale => ?_, fun short => ?_⟩ <;> refine complete.trans ?_ <;>
    simp only [edgeOutcome]
  · have kept' : s.generationKept = true := beq_iff_eq.2 kept
    rw [referenceCompletes_long long, if_pos kept']
    rfl
  · have stale' : ¬s.generationKept = true := fun h => stale (beq_iff_eq.1 h)
    rw [referenceCompletes_long long, if_neg stale']
    rfl
  · rw [referenceCompletes_short short]
    rfl

/-- Settles O44: the boundary past the window limit and the edge past full scale end the measurement. -/
theorem faultsEndTheMeasurement : Obligations.FaultsEndTheMeasurement := by
  intro s
  refine ⟨fun o p law bound => ?_, fun p bound => ?_⟩
  · have fresh : s.conv.window = none := by
      simp only [PhaseLaw, p] at law
      exact law.1
    have noWindow : s.conv.w = 0 := by rw [ConvUnit.w, fresh]; rfl
    refine (boundaryRow_next ((boundary_refCount p).trans (if_neg (Nat.not_le.2 bound)))).trans ?_
    simp only [boundaryOutcome, refTimesOut, settleUnit, ConvUnit.failed, noWindow]
    rfl
  · exact edgeRow_next ((edge_sensor p).trans (if_neg (Nat.not_le.2 bound)))

/-! ### The window's end -/

/-- The imbalance check of R16 with the difference of the halves as a distance. -/
theorem imbalanced_eq (c : ConvUnit) :
    c.imbalanced = (c.chan.ac && decide (c.chan.imbalance.toNat ≠ 0) &&
      decide ((c.chan.imbalance.toNat : Int) * ((c.n1 : Int) + (c.mc - c.n1 : Nat)) <
        |(c.n1 : Int) - (c.mc - c.n1 : Nat)| * 256)) := by
  have distance : ∀ a b : Nat, |(a : Int) - b| = ((a - b) + (b - a) : Nat) := by
    intro a b
    rw [abs_eq_max_neg]
    omega
  have limit : (c.chan.imbalance != 0) = decide (c.chan.imbalance.toNat ≠ 0) := by
    rw [Bool.eq_iff_iff]
    simp [← BitVec.toNat_inj]
  unfold ConvUnit.imbalanced
  rw [distance, limit]
  norm_cast

/-- Clipping adds RATIO_SAT exactly where the quotient passes full scale (R18). -/
theorem clipped_eq (c : ConvUnit) :
    c.clipped = { c with warnings := { c.warnings with
      ratioSat := c.warnings.ratioSat || decide (Config.fullScale < c.quotient) } } := by
  unfold ConvUnit.clipped
  split <;> simp [*]

/-- Settles O45: the three outcomes of a window's end. -/
theorem windowEndChecksAndCounts : Obligations.WindowEndChecksAndCounts := by
  intro s p bound
  have ended := boundaryRow_next ((boundary_window p).trans (if_neg (Nat.not_lt.2 bound)))
  refine ⟨fun under => ?_, fun good more => ?_, fun good last => ?_⟩ <;> refine ended.trans ?_ <;>
    simp only [boundaryOutcome]
  · rw [windowEnds_under under]
    rfl
  · rw [windowEnds_next good more]
    simp only [settleUnit, ConvUnit.enterSnsCount, ConvUnit.goodRepetition, imbalanced_eq]
    rfl
  · rw [windowEnds_last good last]
    simp only [settleUnit, ConvUnit.completed, clipped_eq, ConvUnit.goodRepetition, imbalanced_eq]
    rfl

end Sys2Proof.Machine
end

section
/-! SUPPORT. The arbiter's decision (05): whom it grants, what the grant makes of the part, and why three grants are
enough for a step. -/

namespace Sys2Proof.Machine

/-! ### One grant -/

/-- The arbiter's choice is the table's (R100). -/
theorem choose_of_chosen {s : State} {who : Requester} {q : Request} (h : Chosen s who q) :
    s.arb.choose = some (who, q) := by
  obtain ⟨-, waits⟩ := h
  cases who <;> obtain ⟨own, none | last⟩ := waits <;> unfold Arbiter.choose
  · rw [own, none]
  · rw [own, last]
    cases s.arb.spotReq <;> rfl
  · rw [own, none]
  · rw [own, last]
    cases s.arb.scanReq <;> rfl

/-- The state of a grant before its checks, in the words of the statements (R2, R99). -/
theorem granted_eq (who : Requester) (q : Request) (s : State) :
    { takeGrant who s with conv := beginMeasurement who q (takeGrant who s) } = s.granted who q := by
  cases who <;> rfl

/-- While the unit serves, nothing is granted. -/
theorem arbitrate_serving {s : State} (h : s.arb.holder ≠ none) : arbitrate s = s := by
  have held : s.arb.holder.isSome = true := Option.isSome_iff_ne_none.2 h
  exact if_pos held

/-- A free unit grants as the arbiter chooses, and decides again where the grant ends at once (R3, R100). -/
theorem arbitrateUpTo_chosen (n : Nat) {s : State} {who : Requester} {q : Request} (free : s.arb.holder = none)
    (chosen : s.arb.choose = some (who, q)) :
    arbitrateUpTo (n + 1) s =
      if s.channels[q.channel].enabled then cacheStep (s.granted who q)
      else arbitrateUpTo n
        (deliver who (emptyResult (disabledStatus who)) (parkUnit (s.granted who q))) := by
  have channels : (takeGrant who s).channels = s.channels := (takeGrant_frame who s).channels
  rw [arbitrateUpTo, free, chosen]
  rcases grantUnit_cases who q (takeGrant who s) with ⟨e, g⟩ | ⟨e, g⟩ <;> rw [granted_eq] at g <;>
    rw [channels] at e <;> simp only [g, Option.isSome_none, Bool.false_eq_true, if_false]
  · exact (if_pos e).symm
  · exact (if_neg (Bool.eq_false_iff.1 e)).symm

/-- Nothing waits: nothing is granted. -/
theorem arbitrateUpTo_unasked (n : Nat) {s : State} (h : s.arb.choose = none) : arbitrateUpTo n s = s := by
  cases n with
  | zero => rfl
  | succ n =>
    rw [arbitrateUpTo, h]
    split <;> rfl

/-! ### The cache step -/

theorem enterRefSettle_eq (s : State) : { s with conv := s.conv.enterRefSettle } = s.referenceBegun := by
  unfold ConvUnit.enterRefSettle State.referenceBegun
  split <;> rfl

/-- Under the cache's law the slot of a key is the one a lookup finds (R36, R38). -/
theorem hit_eq {s : State} (law : CacheLaw s) {e : CacheSlot} {r : Fin 4} {k : Fin 13} (mem : e ∈ s.cache.slots)
    (reference : e.reference = r) (target : e.target = k) (young : e.age < s.cache.maxAge) :
    s.cache.hit r k = some e := by
  obtain ⟨-, distinct, -⟩ := law
  have found : (s.cache.hit r k).isSome = true := by
    rw [Cache.hit, List.find?_isSome]
    exact ⟨e, mem, by simp [CacheSlot.holds, reference, target, young]⟩
  obtain ⟨f, hf⟩ := Option.isSome_iff_exists.1 found
  have holds := List.find?_some hf
  simp only [CacheSlot.holds, Bool.and_eq_true, beq_iff_eq, decide_eq_true_eq] at holds
  obtain ⟨⟨reference', target'⟩, -⟩ := holds
  have same : e = f := by
    by_contra ne
    have apart : Std.Symm fun e f : CacheSlot => ¬(e.reference = f.reference ∧ e.target = f.target) :=
      ⟨fun _ _ h ⟨hr, ht⟩ => h ⟨hr.symm, ht.symm⟩⟩
    exact distinct.forall mem (List.mem_of_find?_eq_some hf) ne
      ⟨reference.trans reference'.symm, target.trans target'.symm⟩
  rw [hf, same]

/-- The cache step without a hit (R5). -/
theorem cacheStep_miss {s : State}
    (h : s.conv.request.fresh = true ∨ s.cache.hit s.conv.request.reference s.conv.request.target = none) :
    cacheStep s = s.referenceBegun := by
  rcases cacheStep_cases s with e | ⟨slot, stale, hit, -⟩
  · rw [e, enterRefSettle_eq]
  · rcases h with fresh | miss
    · cases fresh.symm.trans stale
    · cases miss.symm.trans hit

/-- The cache step on a hit (R5, R38). -/
theorem cacheStep_hit {s : State} {e : CacheSlot} (stale : s.conv.request.fresh = false)
    (hit : s.cache.hit s.conv.request.reference s.conv.request.target = some e) :
    cacheStep s =
      { s with
        conv := { s.conv with window := some e.window,
                              warnings := { s.conv.warnings with cached := true } }.enterSnsSettle
        cache := { s.cache with
          slots := e :: dropKey s.conv.request.reference s.conv.request.target s.cache.slots } } := by
  simp only [cacheStep, stale, Cache.lookup, hit]
  rfl

/-- A key whose slots are all too old is a miss (R38). -/
theorem hit_none {c : Cache} {r : Fin 4} {k : Fin 13}
    (h : ∀ e ∈ c.slots, e.reference = r → e.target = k → c.maxAge ≤ e.age) : c.hit r k = none := by
  rw [Cache.hit, List.find?_eq_none]
  intro e mem
  simp only [CacheSlot.holds, Bool.and_eq_true, beq_iff_eq, decide_eq_true_eq, not_and, not_lt, and_imp]
  exact h e mem

/-- Settles O39: no grant, or the chosen one with the three outcomes of the cache step. -/
theorem grantChoosesAndBegins : Obligations.GrantChoosesAndBegins := by
  intro s
  refine ⟨fun serving => ?_, fun noScan noSpot => ?_, fun who q chosen enabled => ?_⟩
  · exact congrArg Host.Outcome.next (arbitrate_serving serving)
  · have unasked : s.arb.choose = none := by rw [Arbiter.choose, noScan, noSpot]
    exact congrArg Host.Outcome.next (arbitrateUpTo_unasked 3 unasked)
  · have begins : arbitrate s = cacheStep (s.granted who q) :=
      (arbitrateUpTo_chosen 2 chosen.1 (choose_of_chosen chosen)).trans (if_pos enabled)
    refine ⟨fun fresh => ?_, fun _ old => ?_, fun e mem stale law reference target young => ?_⟩
    · exact congrArg Host.Outcome.next (begins.trans (cacheStep_miss (.inl fresh)))
    · exact congrArg Host.Outcome.next (begins.trans (cacheStep_miss (.inr (hit_none old))))
    · exact congrArg Host.Outcome.next (begins.trans (cacheStep_hit stale (hit_eq law mem reference target young)))

/-! ### Three grants are enough for a step -/

/-- 1 for a request that a grant would end at once, its channel being disabled (R3). -/
def State.refusals (s : State) : Option Request → Nat
  | none => 0
  | some q => if s.channels[q.channel].enabled then 0 else 1

/-- The waiting requests that a grant would end at once. -/
def State.doomed (s : State) : Nat := s.refusals s.arb.scanReq + s.refusals s.arb.spotReq

/-- Handling a record, a scan end and a start attempt leave the arbiter alone. -/
theorem handleRecord_arb (r : MeasRecord) (s : State) : (handleRecord r s).1.arb = s.arb := by
  have after : ∀ u : State, (afterRecord r u).1.arb = u.arb := by
    intro u
    rcases afterRecord_cases r u with ⟨-, -, h⟩ | ⟨i, -, -, h⟩ | ⟨-, h⟩ <;> rw [h]
  rcases handleRecord_cases r s with ⟨-, h⟩ | ⟨-, -, h⟩ | ⟨-, -, h⟩ <;> rw [h]
  · rw [after]; simp
  · rw [after]; simp
  · simp

theorem endScan_arb (t : Termination) (s : State) : (endScan t s).1.arb = s.arb := by
  rcases endScan_cases t s with ⟨-, h⟩ | ⟨-, h⟩ <;> rw [h] <;> simp

theorem startAttempt_arb (s : State) : (startAttempt s).1.arb = s.arb := by
  rcases startAttempt_cases s with ⟨-, h⟩ | ⟨-, -, h⟩ | ⟨-, -, h⟩ <;> rw [h] <;> simp

/-- What the walk leaves at the arbiter from a state with no scan request: the spot's request as it was, and no scan
request for a disabled channel, since the walk has just checked the channel (R78). -/
structure WalkRequests (s t : State) : Prop where
  channels : t.channels = s.channels
  spotReq : t.arb.spotReq = s.arb.spotReq
  scanReq : t.refusals t.arb.scanReq = 0

/-- The channels decide what is refused (R3). -/
theorem WalkRequests.refusals_eq {s t : State} (h : WalkRequests s t) (q : Option Request) :
    t.refusals q = s.refusals q := by
  unfold State.refusals
  rw [h.channels]

/-- A move of the walk that leaves the arbiter alone. -/
theorem WalkRequests.next {s t u : State} (h : WalkRequests s t) (channels : u.channels = t.channels)
    (arb : u.arb = t.arb) : WalkRequests s u := by
  refine ⟨channels.trans h.channels, arb ▸ h.spotReq, ?_⟩
  have refused := h.scanReq
  unfold State.refusals at refused ⊢
  rwa [channels, arb]

theorem walkRequests_keptByWalk (s : State) : KeptByWalk (WalkRequests s) where
  reaches u h := by
    rcases reachEntry_cases u with ⟨enabled, e⟩ | ⟨-, e⟩ <;> rw [e]
    · exact ⟨h.channels, h.spotReq, if_pos enabled⟩
    · exact h.next (handleRecord_frame _ u).channels (handleRecord_arb _ u)
  handles r u h := h.next (handleRecord_frame r u).channels (handleRecord_arb r u)
  ends t u h := h.next (endScan_frame t u).channels (endScan_arb t u)
  attempts u h := h.next (startAttempt_frame u).channels (startAttempt_arb u)

/-- The chosen request waits (R100). -/
theorem choose_waits {a : Arbiter} {who : Requester} {q : Request} (h : a.choose = some (who, q)) :
    match who with
    | .scan => a.scanReq = some q
    | .spot => a.spotReq = some q := by
  unfold Arbiter.choose at h
  cases who <;> cases hs : a.scanReq <;> cases hp : a.spotReq <;> grind

/-- A grant that ends at once leaves one such request less (R3). -/
theorem doomed_lt {s : State} {who : Requester} {q : Request} (chosen : s.arb.choose = some (who, q))
    (disabled : s.channels[q.channel].enabled = false) (r : Result) :
    (deliver who r (parkUnit (s.granted who q))).doomed < s.doomed := by
  have waits := choose_waits chosen
  have refused : s.refusals (some q) = 1 := if_neg (Bool.eq_false_iff.1 disabled)
  unfold State.doomed
  cases who with
  | spot =>
    rw [show s.arb.spotReq = some q from waits, refused]
    exact Nat.lt_succ_self _
  | scan =>
    have walked : WalkRequests (parkUnit (s.granted .scan q)) (deliver .scan r (parkUnit (s.granted .scan q))) :=
      takeScanResult_keeps (walkRequests_keptByWalk _) r _ ⟨rfl, rfl, rfl⟩
    rw [show s.arb.scanReq = some q from waits, refused, walked.scanReq, walked.spotReq, walked.refusals_eq]
    exact Nat.add_lt_add_right Nat.one_pos _

/-- With more grants than requests that end at once, one grant more changes nothing. -/
theorem arbitrateUpTo_succ (n : Nat) (s : State) (h : s.doomed < n) : arbitrateUpTo (n + 1) s = arbitrateUpTo n s := by
  induction n generalizing s with
  | zero => exact absurd h (Nat.not_lt_zero _)
  | succ n ih =>
    by_cases free : s.arb.holder = none
    · cases chosen : s.arb.choose with
      | none => rw [arbitrateUpTo_unasked _ chosen, arbitrateUpTo_unasked _ chosen]
      | some request =>
        obtain ⟨who, q⟩ := request
        rw [arbitrateUpTo_chosen _ free chosen, arbitrateUpTo_chosen _ free chosen]
        split
        · rfl
        · next disabled =>
          have fewer := doomed_lt chosen (by simpa using disabled) (emptyResult (disabledStatus who))
          exact ih _ (by omega)
    · have held : s.arb.holder.isSome = true := Option.isSome_iff_ne_none.2 free
      exact (if_pos held).trans (if_pos held).symm

theorem refusals_le (s : State) (q : Option Request) : s.refusals q ≤ 1 := by
  cases q with
  | none => exact Nat.zero_le _
  | some q =>
    simp only [State.refusals]
    split
    · exact Nat.zero_le _
    · exact Nat.le_refl _

/-- A grant for a disabled channel, and then the arbiter's decision on what its owner has made of it (R3, R100). -/
theorem arbitrate_disabled {s : State} {who : Requester} {q : Request} (chosen : Chosen s who q)
    (disabled : s.channels[q.channel].enabled = false) :
    arbitrate s = arbitrate (deliver who (emptyResult (disabledStatus who)) (s.granted who q).unitReleased) := by
  have chooses := choose_of_chosen chosen
  have fewer := doomed_lt chooses disabled (emptyResult (disabledStatus who))
  have most : s.doomed ≤ 2 := Nat.add_le_add (refusals_le s _) (refusals_le s _)
  have first : arbitrate s = arbitrateUpTo 2 _ :=
    (arbitrateUpTo_chosen 2 chosen.1 chooses).trans (if_neg (Bool.eq_false_iff.1 disabled))
  rw [first]
  exact (arbitrateUpTo_succ 2 _ (by omega)).symm

/-- A CHANNEL_DISABLED record is neither offered to a slot nor a fault (R81). -/
theorem offerAndFlag_disabled {r : MeasRecord} (h : r.status = .channelDisabled) (s : State) :
    offerAndFlag r s = s := by
  unfold offerAndFlag
  rw [h]
  cases s.entry.slot <;> rfl

/-- Settles O40: the grant ends at once for its owner, and three grants are enough for the rest. -/
theorem grantOfADisabledChannel : Obligations.GrantOfADisabledChannel := by
  intro s q disabled
  refine ⟨fun chosen => ⟨_, rfl, ?_⟩, fun chosen scanning => ⟨_, rfl, ?_⟩⟩ <;> refine congrArg Host.Outcome.next ?_
  · exact arbitrate_disabled chosen disabled
  · have released : (s.granted .scan q).unitReleased.ctl.state = .scanning := scanning
    refine (arbitrate_disabled chosen disabled).trans (congrArg arbitrate ?_)
    refine (takeScanResult_eq _ _ released).trans ?_
    rw [offerAndFlag_disabled rfl]
    rfl

end Sys2Proof.Machine
end

section
/-! SUPPORT. The window cache (02, sections 2.3 to 2.8): everything that a step can do to it, said once, and its law
(R36). -/

namespace Sys2Proof.Machine

/-! ### What a rule does to the cache -/

/-- What one rule of the cache does to it. -/
inductive CacheMove : Cache → Cache → Prop where
  /-- A lookup moves the slot it hits to position 0 (R38). -/
  | used {c : Cache} {r : Fin 4} {k : Fin 13} {e : CacheSlot} (hit : c.hit r k = some e) :
      CacheMove c { c with slots := e :: dropKey r k c.slots }
  /-- A store (R40). -/
  | stored (c : Cache) (r : Fin 4) (k : Fin 13) (w : Nat) : CacheMove c (c.store r k w)
  /-- A scan end ages the slots (R42). -/
  | aged (c : Cache) : CacheMove c c.aged
  /-- One key becomes invalid (R43). -/
  | keyDropped (c : Cache) (r : Fin 4) (k : Fin 13) : CacheMove c (c.invalidateKey r k)
  /-- The keys of one reference become invalid (R44). -/
  | referenceDropped (c : Cache) (r : Fin 4) : CacheMove c (c.invalidateReference r)
  /-- Every slot becomes invalid (R45). -/
  | emptied (c : Cache) : CacheMove c c.invalidateAll
  /-- CACHE_MAX_AGE is written, or reset (R39). -/
  | maxAgeSet (c : Cache) (n : Nat) (bound : n ≤ Config.maxAge) : CacheMove c { c with maxAge := n }

/-- The cache of `s` has come from `c` by the cache's rules alone. -/
def CacheFrom (c : Cache) (s : State) : Prop := Relation.ReflTransGen CacheMove c s.cache

namespace CacheFrom

variable {c : Cache} {s t : State}

/-- An operation beside the cache. -/
theorem beside (h : CacheFrom c s) (e : t.cache = s.cache) : CacheFrom c t := by
  unfold CacheFrom
  rw [e]
  exact h

/-- An operation that is one of the cache's rules. -/
theorem moved (h : CacheFrom c s) (m : CacheMove s.cache t.cache) : CacheFrom c t := Relation.ReflTransGen.tail h m

/-! ### The scan controller -/

theorem afterRecord (r : MeasRecord) (h : CacheFrom c s) : CacheFrom c (afterRecord r s).1 := by
  rcases afterRecord_cases r s with ⟨-, -, e⟩ | ⟨i, -, -, e⟩ | ⟨-, e⟩ <;> rw [e] <;> exact h

theorem handleRecord (r : MeasRecord) (h : CacheFrom c s) : CacheFrom c (handleRecord r s).1 := by
  rcases handleRecord_cases r s with ⟨-, e⟩ | ⟨-, -, e⟩ | ⟨-, -, e⟩ <;> rw [e]
  · exact afterRecord r (h.beside (by simp [tally]))
  · exact afterRecord r (h.beside (by simp [tally]))
  · exact h.beside (by simp [holdRecord])

/-- A scan end ages the cache (R88). -/
theorem closeScan (t : Termination) (h : CacheFrom c s) : CacheFrom c (closeScan t s) :=
  h.moved (by rw [closeScan_cache]; exact .aged _)

theorem endScan (t : Termination) (h : CacheFrom c s) : CacheFrom c (endScan t s).1 := by
  rcases endScan_cases t s with ⟨-, e⟩ | ⟨-, e⟩ <;> rw [e] <;> exact (h.closeScan t).beside rfl

theorem startAttempt (h : CacheFrom c s) : CacheFrom c (startAttempt s).1 := by
  rcases startAttempt_cases s with ⟨-, e⟩ | ⟨-, -, e⟩ | ⟨-, -, e⟩ <;> rw [e] <;> exact h.beside rfl

theorem keptByWalk (c : Cache) : KeptByWalk (CacheFrom c) where
  reaches s h := by
    rcases reachEntry_cases s with ⟨-, e⟩ | ⟨-, e⟩ <;> rw [e]
    · exact h.beside rfl
    · exact h.handleRecord _
  handles r _ h := h.handleRecord r
  ends t _ h := h.endScan t
  attempts _ h := h.startAttempt

theorem deliver (who : Requester) (r : Result) (h : CacheFrom c s) : CacheFrom c (deliver who r s) := by
  cases who with
  | scan => exact takeScanResult_keeps (keptByWalk c) r s h
  | spot => exact h.beside rfl

/-! ### The unit -/

/-- A lookup is the one thing a grant does to the cache (R5). -/
theorem cacheStep (h : CacheFrom c s) : CacheFrom c (cacheStep s) := by
  rcases cacheStep_cases s with e | ⟨slot, -, hit, e⟩ <;> rw [e]
  · exact h.beside rfl
  · exact h.moved (.used hit)

theorem grantUnit (who : Requester) (q : Request) (h : CacheFrom c s) :
    CacheFrom c (grantUnit who q (takeGrant who s)).1 := by
  have taken : CacheFrom c (takeGrant who s) := h.beside (by cases who <;> rfl)
  rcases grantUnit_cases who q (takeGrant who s) with ⟨-, e⟩ | ⟨-, e⟩ <;> rw [e]
  · exact cacheStep (taken.beside rfl)
  · exact taken.beside rfl

theorem arbitrate (h : CacheFrom c s) : CacheFrom c (arbitrate s) :=
  arbitrate_keeps (fun _ who q _ _ _ h => h.grantUnit who q)
    (fun _ who q _ _ _ h => deliver who _ ((h.grantUnit who q).beside rfl)) s h

theorem finish (r : Result) (h : CacheFrom c s) : CacheFrom c (finish r s) := by
  have parked : CacheFrom c (parkUnit s) := h.beside rfl
  unfold Machine.finish
  split
  · exact parked.arbitrate
  · exact (parked.deliver _ r).arbitrate

theorem settleUnit {out : State × Option Result} (h : CacheFrom c out.1) : CacheFrom c (settleUnit out) := by
  obtain ⟨u, _ | r⟩ := out
  · exact h
  · exact h.finish r

/-- A timeout invalidates its key (R10). -/
theorem boundaryOutcome (k : Boundary) (h : CacheFrom c s) : CacheFrom c (boundaryOutcome k s).1 := by
  cases k with
  | refTimeout => exact h.moved (.keyDropped _ _ _)
  | windowEnd =>
    exact windowEnds_keeps (P := fun out => CacheFrom c out.1) (h.beside rfl) (fun _ => h.beside rfl) (h.beside rfl)
  | ignored | counted | refSettleExpiry | snsSettleExpiry | firstHalfEnd => exact h.beside rfl

/-- The reference's completion stores its window, or invalidates its key (R9 to R11). -/
theorem edgeOutcome (k : Edge) (h : CacheFrom c s) : CacheFrom c (edgeOutcome k s).1 := by
  cases k with
  | referenceComplete =>
    show CacheFrom c (referenceCompletes s).1
    rcases Nat.lt_or_ge s.conv.wc Config.minWindow with short | long
    · rw [referenceCompletes_short short]
      exact h.moved (.keyDropped _ _ _)
    · rw [referenceCompletes_long long]
      cases kept : s.generationKept
      · exact h.beside rfl
      · exact h.moved (.stored _ _ _ _)
  | ignored | counted | openingEdge | sensorOverrange => exact h.beside rfl

theorem takeBoundary (k : Boundary) (h : CacheFrom c s) : CacheFrom c (takeBoundary k s) := by
  rw [takeBoundary_eq]
  exact settleUnit (h.boundaryOutcome k)

theorem takeEdge (k : Edge) (h : CacheFrom c s) : CacheFrom c (takeEdge k s) := by
  rw [takeEdge_eq]
  exact settleUnit (h.edgeOutcome k)

/-! ### Starts, triggers and room reports -/

theorem attemptStart (h : CacheFrom c s) : CacheFrom c (attemptStart s).1 :=
  attemptStart_keeps (keptByWalk c).walkKeeps (fun _ h => h.arbitrate) s h.startAttempt

theorem takeTrigger (h : CacheFrom c s) : CacheFrom c (takeTrigger s) := by
  unfold Machine.takeTrigger
  split
  · exact h
  · exact h.attemptStart
  all_goals split <;> exact h.beside rfl

theorem reofferRecord (h : CacheFrom c s) : CacheFrom c (reofferRecord s) := by
  unfold Machine.reofferRecord
  split
  · exact h
  · next r _ =>
    have appended : CacheFrom c (appendRecord (.measurement r) s) := h.beside (by simp)
    exact guarded_keeps h (arbitrate (continueWalk_afterRecord_keeps (keptByWalk c) r _ rfl
      (afterRecord r (appended.beside rfl))))

theorem roomReport (h : CacheFrom c s) : CacheFrom c (roomReport s) := by
  unfold Machine.roomReport
  split
  · exact h.attemptStart
  · exact h.reofferRecord
  all_goals exact h

theorem popResult (h : CacheFrom c s) : CacheFrom c (popResult s) := by
  unfold Machine.popResult
  split
  · exact h
  · exact roomReport (h.beside rfl)

/-! ### Commands -/

theorem startSingle (h : CacheFrom c s) : CacheFrom c (startSingle s).state := by
  unfold Machine.startSingle
  split
  · exact h
  · split
    · exact h
    · exact attemptStart (h.beside rfl)

theorem startTimed (h : CacheFrom c s) : CacheFrom c (startTimed s).state := by
  unfold Machine.startTimed
  split
  · exact h
  · exact attemptStart (h.beside rfl)

theorem armTrigger (h : CacheFrom c s) : CacheFrom c (armTrigger s).state := by
  unfold Machine.armTrigger
  split <;> exact h.beside rfl

theorem stopRun (h : CacheFrom c s) : CacheFrom c (stopRun s).state := by
  unfold Machine.stopRun
  split <;> exact h.beside rfl

theorem cutOffScan (h : CacheFrom c s) : CacheFrom c (cutOffScan s) := by
  unfold Machine.cutOffScan
  dsimp only
  split <;> exact h.beside rfl

theorem abortRun (h : CacheFrom c s) : CacheFrom c (abortRun s).state := by
  unfold Machine.abortRun
  split
  · exact h
  iterate 2 exact h.beside rfl
  all_goals exact arbitrate ((h.cutOffScan.closeScan .aborted).beside rfl)

theorem setLength (h : CacheFrom c s) : CacheFrom c (setLength s).state := by
  unfold Machine.setLength
  split
  · exact h
  · exact withArgs_keeps h fun _ => h.beside rfl

theorem writeEntry (h : CacheFrom c s) : CacheFrom c (writeEntry s).state := by
  unfold Machine.writeEntry
  split
  · exact h
  · exact withArgs_keeps h fun _ => h.beside rfl

theorem commit (h : CacheFrom c s) : CacheFrom c (commit s).state := by
  unfold Machine.commit
  split
  · exact h
  · split
    · exact h
    · dsimp only
      split <;> exact h.beside rfl

theorem spotCommand (h : CacheFrom c s) : CacheFrom c (spotCommand s).state := by
  unfold Machine.spotCommand
  split
  · exact h
  · refine withArgs_keeps h fun q => ?_
    split
    · exact arbitrate (h.beside rfl)
    · exact h

theorem cancelSpot (h : CacheFrom c s) : CacheFrom c (cancelSpot s).state := by
  unfold Machine.cancelSpot
  split
  · exact h
  · exact arbitrate (h.beside rfl)
  · refine arbitrate ?_
    unfold stopSpot
    split <;> exact h.beside rfl

theorem setClock (h : CacheFrom c s) : CacheFrom c (setClock s).state := by
  unfold Machine.setClock
  split
  · exact h
  · exact withArgs_keeps h fun _ => h.moved (.emptied _)

theorem runCommand (x : Command) (h : CacheFrom c s) : CacheFrom c (runCommand x s).state := by
  cases x with
  | writeReference => exact withArgs_keeps h fun _ => h.moved (.referenceDropped _ _)
  | preloadWindow => exact withArgs_keeps h fun _ => h.moved (.stored _ _ _ _)
  | invalidateCache | resetEngine => exact h.moved (.emptied _)
  | setClock => exact h.setClock
  | startSingle => exact h.startSingle
  | startTimed => exact h.startTimed
  | armTrigger => exact h.armTrigger
  | stop => exact h.stopRun
  | abort => exact h.abortRun
  | setLength => exact h.setLength
  | writeEntry => exact h.writeEntry
  | commit => exact h.commit
  | spot => exact h.spotCommand
  | cancelSpot => exact h.cancelSpot
  | flushFifo => exact roomReport (h.beside rfl)
  | writeChannel | writeSlot | readEntry | readChannel | readReference | readCache | readSlot =>
    exact withArgs_keeps h fun _ => h.beside rfl

/-! ### Register accesses -/

theorem takeCode (v : Byte) (h : CacheFrom c s) : CacheFrom c (takeCode v s) := by
  unfold Machine.takeCode
  split
  · next x _ => exact (h.runCommand x).beside rfl
  · exact h.beside rfl

/-- A write of CACHE_MAX_AGE (R39). -/
theorem writeCacheMaxAge (v : Byte) (h : CacheFrom c s) : CacheFrom c (writeCacheMaxAge v s) :=
  h.moved (.maxAgeSet _ _ (Nat.min_le_right _ _))

theorem stage (which : StagedByte) (v : Byte) (h : CacheFrom c s) : CacheFrom c (stage which v s) := by
  cases which <;> exact h.beside rfl

theorem writeParam (a : Addr) (v : Byte) (h : CacheFrom c s) : CacheFrom c (writeParam a v s) := by
  unfold Machine.writeParam
  split <;> exact h.beside rfl

theorem writeValue (a : Addr) (v : Byte) (h : CacheFrom c s) : CacheFrom c (writeValue a v s) := by
  unfold Machine.writeValue
  split
  · exact h.takeCode v
  iterate 8 exact h.beside rfl
  · exact h.writeCacheMaxAge v
  iterate 3 exact h.beside rfl
  · exact h.writeParam a v

/-- A write row takes its byte, or nothing happens (log 3). -/
theorem writeRow (a : Addr) {f : State → State} (h : CacheFrom c s) (hf : CacheFrom c (f s)) :
    CacheFrom c (writeRow a f s) :=
  guarded_keeps h (hf.beside (t := advance (f s)) rfl)

theorem beforeRead (a : Addr) (h : CacheFrom c s) : CacheFrom c (beforeRead a s) := by
  unfold Machine.beforeRead
  split <;> exact h.beside rfl

theorem readByte (h : CacheFrom c s) : CacheFrom c (readByte s) := by
  rw [readByte_eq]
  have shifted := (h.beforeRead s.port.pointer).beside
    (t := shiftOut (readValue (Machine.beforeRead s.port.pointer s) s.port.pointer) _) rfl
  unfold afterRead
  split
  · exact shifted.popResult
  · exact shifted.beside rfl
  · exact shifted

theorem readBytes (n : Nat) (h : CacheFrom c s) : CacheFrom c (readBytes n s) := by
  induction n generalizing s with
  | zero => exact h
  | succ n ih => exact ih h.readByte

theorem readRow (a : Addr) (h : CacheFrom c s) : CacheFrom c (readRow a s) := guarded_keeps h (h.readBytes _)

theorem accessRow (a : Addr) (x : Access) (h : CacheFrom c s) : CacheFrom c (accessRow a x s) := by
  cases x with
  | read => exact h.readRow a
  | write v => exact h.writeRow a (h.writeValue a v)

/-! ### Pins, clocks and resets -/

theorem csFalls (h : CacheFrom c s) : CacheFrom c (csFalls s) := by
  unfold Machine.csFalls
  dsimp only
  split
  · exact h
  · split <;> exact h.beside rfl

theorem csRises (reads : Nat) (h : CacheFrom c s) : CacheFrom c (csRises reads s) := by
  unfold Machine.csRises
  split
  · dsimp only
    split
    · exact (h.readBytes reads).beside rfl
    · exact h.beside rfl
  · exact h

/-- A hard reset empties the cache and sets CACHE_MAX_AGE to 4 (R37, R39). -/
theorem hardReset (h : CacheFrom c s) (u : State) : CacheFrom c (hardResetValues u) := by
  have emptied : CacheFrom c { s with cache := s.cache.invalidateAll } := h.moved (.emptied _)
  exact emptied.moved (.maxAgeSet _ 4 (by decide))

theorem rstRises (h : CacheFrom c s) : CacheFrom c (rstRises s) := by
  unfold Machine.rstRises
  dsimp only
  split
  · split <;> exact h.beside rfl
  · exact h

theorem supplyCrosses (above : Bool) (h : CacheFrom c s) : CacheFrom c (supplyCrosses above s) := by
  unfold Machine.supplyCrosses
  dsimp only
  split
  · exact h
  · split
    · split <;> exact h.beside rfl
    · exact h.hardReset _

theorem trigChanges (high : Bool) (h : CacheFrom c s) : CacheFrom c (trigChanges high s) := by
  unfold Machine.trigChanges deliverEdge
  dsimp only
  split
  · exact h
  · split
    · exact h.beside rfl
    · split
      · exact takeTrigger (h.beside rfl)
      · exact h.beside rfl

theorem takeLfBoundary (k : LfBoundary) (h : CacheFrom c s) : CacheFrom c (takeLfBoundary k s) := by
  cases k with
  | expiry =>
    show CacheFrom c (deliverExpiry _)
    unfold deliverExpiry
    split
    · exact takeTrigger (h.beside rfl)
    · exact h.beside rfl
  | ignored | counted | unitEnd => exact h.beside rfl

theorem lfRow (k : LfBoundary) (h : CacheFrom c s) : CacheFrom c (lfRow k s) := guarded_keeps h (h.takeLfBoundary k)

theorem unitRow (h : CacheFrom c s) : CacheFrom c (unitRow s) := by
  unfold Machine.unitRow
  split <;> exact h.lfRow _

/-! ### Every command -/

theorem commandRow (x : Command) (h : CacheFrom c s) : CacheFrom c (commandRow x (Machine.runCommand x) s) :=
  h.writeRow _ ((h.runCommand x).beside rfl)

/-- No command does anything to the cache but by the cache's rules. -/
theorem exec (i : Instr) (h : CacheFrom c s) : ∃ t, exec i s = .next t ∧ CacheFrom c t := by
  cases i
  case startSingle | startTimed | armTrigger | stop | abort | resetEngine | setLength | writeEntry | readEntry |
      commit | writeChannel | readChannel | writeReference | readReference | preloadWindow | readCache |
      invalidateCache | spot | cancelSpot | flushFifo | writeSlot | readSlot | setClock =>
    exact ⟨_, rfl, h.commandRow _⟩
  case unknownCommand code => exact ⟨_, rfl, h.writeRow _ (h.takeCode code)⟩
  case frameStart => exact ⟨_, rfl, h.csFalls⟩
  case addressByte b => exact ⟨_, rfl, guarded_keeps h (h.beside rfl)⟩
  case frameEnd reads => exact ⟨_, rfl, h.csRises reads⟩
  case resultByte0Read | resultByte15Read | eventByte0Read | eventByte7Read | spotByte0Read | snapshotLowByteRead =>
    exact ⟨_, rfl, h.readRow _⟩
  case stagingByteWrite which v => exact ⟨_, rfl, h.writeRow _ (h.stage which v)⟩
  case cacheMaxAgeWrite v => exact ⟨_, rfl, h.writeRow _ (h.writeCacheMaxAge v)⟩
  case scanCountWrite | scanIntervalWrite | windowMaxWrite | scanCtrlWrite | fifoThresholdWrite | attnFlagsWrite |
      attnEnableWrite =>
    exact ⟨_, rfl, h.writeRow _ (h.beside rfl)⟩
  case registerWrite a x => exact ⟨_, rfl, h.accessRow a x⟩
  case hardReset => exact ⟨_, rfl, h.hardReset _⟩
  case resetRelease => exact ⟨_, rfl, h.rstRises⟩
  case powerOnReset above => exact ⟨_, rfl, h.supplyCrosses above⟩
  case trigEdge high => exact ⟨_, rfl, h.trigChanges high⟩
  case scanTimerUnit => exact ⟨_, rfl, h.unitRow⟩
  case scanTimerExpiry => exact ⟨_, rfl, h.lfRow _⟩
  case lfPeriodBoundary => exact ⟨_, rfl, h.takeLfBoundary _⟩
  case grant => exact ⟨_, rfl, h.arbitrate⟩
  case refSettleExpiry | refTimeout | snsSettleExpiry | firstHalfEnd | windowEnd =>
    exact ⟨_, rfl, guarded_keeps h (h.takeBoundary _)⟩
  case openingEdge | referenceComplete | sensorOverrange => exact ⟨_, rfl, guarded_keeps h (h.takeEdge _)⟩
  case periodBoundary => exact ⟨_, rfl, h.takeBoundary _⟩
  case oscillatorEdge => exact ⟨_, rfl, h.takeEdge _⟩
  case heldStartRetry | pendingTriggerStart => exact ⟨_, rfl, guarded_keeps h h.attemptStart⟩
  case heldRecordReoffer => exact ⟨_, rfl, guarded_keeps h h.reofferRecord⟩
  case swap => exact ⟨_, rfl, guarded_keeps h (h.beside rfl)⟩

end CacheFrom

/-- A step does nothing to the cache but by the cache's rules. -/
theorem step_cacheMoves {s t : State} (run : step s = .next t) : Relation.ReflTransGen CacheMove s.cache t.cache := by
  unfold step at run
  split at run
  · cases run
    exact .refl
  · next i rest _ =>
    have began : CacheFrom s.cache { s with pending := rest } := .refl
    obtain ⟨u, run', moves⟩ := began.exec i
    cases run'.symm.trans run
    exact moves

/-! ### The law -/

/-- The slots hold different keys (R36). -/
abbrev CacheSlot.Apart (e f : CacheSlot) : Prop := ¬(e.reference = f.reference ∧ e.target = f.target)

/-- The law of the cache as one of the cache alone (R36). -/
def Cache.Law (c : Cache) : Prop :=
  c.slots.length ≤ Config.cacheSlots ∧ c.slots.Pairwise CacheSlot.Apart ∧ ∀ e ∈ c.slots, e.age ≤ Config.maxAge

theorem cacheLaw_iff (s : State) : CacheLaw s ↔ s.cache.Law := Iff.rfl

theorem CacheSlot.holds_iff {r : Fin 4} {k : Fin 13} {e : CacheSlot} :
    e.holds r k = true ↔ e.reference = r ∧ e.target = k := by
  simp [CacheSlot.holds]

theorem mem_dropKey {r : Fin 4} {k : Fin 13} {slots : List CacheSlot} {e : CacheSlot} :
    e ∈ dropKey r k slots ↔ e ∈ slots ∧ ¬(e.reference = r ∧ e.target = k) := by
  rw [dropKey, List.mem_filter, Bool.not_eq_true', ← Bool.not_eq_true, CacheSlot.holds_iff]

/-- Slots may become invalid (R43 to R45). -/
theorem Cache.Law.filter {c : Cache} (h : c.Law) (p : CacheSlot → Bool) : { c with slots := c.slots.filter p }.Law := by
  obtain ⟨few, apart, young⟩ := h
  exact ⟨(List.length_filter_le _ _).trans few, apart.filter _, fun e he => young e (List.mem_filter.1 he).1⟩

/-- A slot of the key at the front, with the slots of the other keys behind it, which are too few to need its place or
lose their last (R38, R40). -/
theorem Cache.Law.front {c : Cache} (h : c.Law) {r : Fin 4} {k : Fin 13} {e : CacheSlot} (key : e.holds r k = true)
    (young : e.age ≤ Config.maxAge) :
    { c with slots := (e :: dropKey r k c.slots).take Config.cacheSlots }.Law := by
  obtain ⟨-, apart, others⟩ := h.filter fun e => !e.holds r k
  obtain ⟨reference, target⟩ := CacheSlot.holds_iff.1 key
  have front : (e :: dropKey r k c.slots).Pairwise CacheSlot.Apart := by
    refine List.pairwise_cons.2 ⟨fun f hf ⟨hr, ht⟩ => ?_, apart⟩
    exact (mem_dropKey.1 hf).2 ⟨hr.symm.trans reference, ht.symm.trans target⟩
  refine ⟨List.length_take_le _ _, front.sublist (List.take_sublist _ _), fun f hf => ?_⟩
  rcases List.mem_cons.1 (List.mem_of_mem_take hf) with rfl | hf
  · exact young
  · exact others f hf

/-- Where a slot holds the key, the slots of the other keys are one less than all. -/
theorem length_dropKey_lt {r : Fin 4} {k : Fin 13} {slots : List CacheSlot} {e : CacheSlot} (mem : e ∈ slots)
    (key : e.holds r k = true) : (dropKey r k slots).length < slots.length :=
  List.length_filter_lt_length_iff_exists.2 ⟨e, mem, by simp [key]⟩

/-- Every rule of the cache keeps its law. -/
theorem CacheMove.law {c d : Cache} (m : CacheMove c d) (h : c.Law) : d.Law := by
  cases m with
  | @used r k e hit =>
    have key : e.holds r k = true := by
      have found := List.find?_some hit
      simp only [Bool.and_eq_true] at found
      exact found.1
    have mem : e ∈ c.slots := List.mem_of_find?_eq_some hit
    obtain ⟨few, -, young⟩ := id h
    have front := h.front key (young e mem)
    rwa [List.take_of_length_le ((Nat.succ_le_of_lt (length_dropKey_lt mem key)).trans few)] at front
  | stored r k w => exact h.front (CacheSlot.holds_iff.2 ⟨rfl, rfl⟩) (Nat.zero_le _)
  | aged =>
    obtain ⟨few, apart, -⟩ := h
    refine ⟨(List.length_map _).trans_le few, List.pairwise_map.2 apart, fun e he => ?_⟩
    obtain ⟨f, -, rfl⟩ := List.mem_map.1 he
    exact succUpTo_le _ _
  | keyDropped | referenceDropped => exact h.filter _
  | emptied => exact ⟨Nat.zero_le _, .nil, nofun⟩
  | maxAgeSet => exact h

theorem Cache.Law.moves {c d : Cache} (h : c.Law) (moves : Relation.ReflTransGen CacheMove c d) : d.Law := by
  induction moves with
  | refl => exact h
  | tail _ m ih => exact m.law ih

/-- Settles O54: a step changes the cache by the cache's rules alone, and each of them keeps its law. -/
theorem stepKeepsCacheLaw : Obligations.StepKeepsCacheLaw := by
  intro s t law run
  exact (cacheLaw_iff t).2 (((cacheLaw_iff s).1 law).moves (step_cacheMoves run))

end Sys2Proof.Machine
end

section
/-! SUPPORT. Arguments and answers of the commands: where a parse refuses in the words of the statements, which block
of arguments it takes, and what a command row with arguments makes of the part (10.6, R190 to R192). -/

namespace Sys2Proof.Machine

/-! ### Bytes of numbers -/

/-- A byte with the value of an index in range. -/
theorem ofNat_of_toNat {n : Nat} {b : Byte} (h : n = b.toNat) : BitVec.ofNat 8 n = b := by
  rw [h, BitVec.ofNat_toNat, BitVec.setWidth_eq]

/-- An index as a byte keeps its value. -/
theorem index_toNat {n : Nat} (i : Fin n) (small : n ≤ 256 := by decide) : i.val = (BitVec.ofNat 8 i).toNat :=
  (Nat.mod_eq_of_lt (i.isLt.trans_le small)).symm

theorem byteOfBool_toNat (b : Bool) : b.toNat = (byteOfBool b).toNat := by cases b <;> rfl

/-- A limit slot's byte names the slot, 255 none (R51). -/
theorem slotByte_toNat (x : Option (Fin 16)) : (x.map Fin.val).getD 255 = (slotByte x).toNat := by
  cases x with
  | none => rfl
  | some l => exact index_toNat l

theorem byteOf_toNat (n i : Nat) : (byteOf n i).toNat = n / 256 ^ i % 256 := BitVec.toNat_ofNat _ _

theorem byteOf_zero (n : Nat) : byteOf n 0 = BitVec.ofNat 8 n := by rw [byteOf, Nat.pow_zero, Nat.div_one]

/-- Byte `i` of a word is its bits from `8 * i` on (10.5). -/
theorem byteOf_eq_extract {w : Nat} (v : BitVec w) (i : Nat) : byteOf v.toNat i = v.extractLsb' (8 * i) 8 := by
  apply BitVec.eq_of_toNat_eq
  rw [byteOf_toNat, BitVec.extractLsb'_toNat, Nat.shiftRight_eq_div_pow, Nat.pow_mul]

/-- The two bytes of a 16-bit value give it back (R186). -/
theorem join16_bytes (v : BitVec 16) : join16 (byteOf v.toNat 1) (byteOf v.toNat 0) = v := by
  apply BitVec.eq_of_toNat_eq
  rw [join16_toNat, byteOf_toNat, byteOf_toNat]
  have := v.isLt
  omega

/-- The three bytes of a 24-bit value give it back (R186). -/
theorem join24_bytes (v : BitVec 24) : join24 (byteOf v.toNat 2) (byteOf v.toNat 1) (byteOf v.toNat 0) = v := by
  apply BitVec.eq_of_toNat_eq
  rw [join24_toNat, byteOf_toNat, byteOf_toNat, byteOf_toNat]
  have := v.isLt
  omega

/-! ### Which arguments are in range -/

theorem indexArg_eq_none {n : Nat} {b : Byte} : indexArg n b = none ↔ ¬b.toNat < n := by simp [indexArg]

theorem boolArg_eq_none {b : Byte} : boolArg b = none ↔ ¬b.toNat ≤ 1 := by
  refine ⟨fun refused inRange => ?_, fun out => boolArg_none (Nat.lt_of_not_le out)⟩
  rcases Nat.le_one_iff_eq_zero_or_eq_one.1 inRange with h | h
  · cases refused.symm.trans (boolArg_some (x := false) h.symm)
  · cases refused.symm.trans (boolArg_some (x := true) h.symm)

theorem nonzeroArg_eq_none {v : BitVec 16} : nonzeroArg v = none ↔ ¬v.toNat ≠ 0 := by
  simp [nonzeroArg, ← BitVec.toNat_inj]

theorem rangeArg_eq_none {low high v : Nat} : rangeArg low high v = none ↔ ¬(low ≤ v ∧ v ≤ high) := by
  simp [rangeArg]

theorem nonzeroArg_some {v : BitVec 16} (h : v ≠ 0) : nonzeroArg v = some v := if_neg h

theorem rangeArg_some {low high v : Nat} (h : low ≤ v ∧ v ≤ high) : rangeArg low high v = some v := if_pos h

/-! ### The first argument out of range -/

theorem firstBad_cons (b : Bool) (oks : List Bool) :
    firstBad (b :: oks) = if b then (firstBad oks).map (· + 1) else some 1 := by
  cases b
  · rfl
  · simp [firstBad, List.findIdx?_cons, Function.comp_def]

/-- After `before` arguments in range, a parse whose next arguments are in range as `oks` says refuses the first that
is not, by its position (R191). -/
def Refuses {α : Type} (before : Nat) (oks : List Bool) (parsed : Except Byte α) : Prop :=
  ∀ d, firstBad oks = some d → parsed = .error (BitVec.ofNat 8 (before + d))

namespace Refuses

variable {α β : Type} {before : Nat} {oks : List Bool}

/-- No argument is left to refuse. -/
theorem nil {parsed : Except Byte α} : Refuses before [] parsed := nofun

/-- An argument of any value. -/
theorem unchecked {parsed : Except Byte α} (rest : Refuses (before + 1) oks parsed) :
    Refuses before (true :: oks) parsed := by
  intro d bad
  rw [firstBad_cons] at bad
  obtain ⟨e, later, rfl⟩ := Option.map_eq_some_iff.1 bad
  rw [rest e later, Nat.add_right_comm, Nat.add_assoc]

/-- The next argument is checked, and the rest follow. -/
theorem checked {p : Prop} [Decidable p] {a : Option β} {f : β → Except Byte α} (range : a = none ↔ ¬p)
    (rest : ∀ x, Refuses (before + 1) oks (f x)) :
    Refuses before (decide p :: oks) (argAt (BitVec.ofNat 8 (before + 1)) a >>= f) := by
  by_cases hp : p
  · obtain ⟨x, rfl⟩ := Option.ne_none_iff_exists'.1 fun none => range.1 none hp
    rw [decide_eq_true hp]
    exact unchecked (rest x)
  · intro d bad
    rw [decide_eq_false hp] at bad
    cases bad
    rw [range.2 hp]
    rfl

end Refuses

/-! ### Parses -/

/-- WRITE_CHANNEL's checks in order (R29). -/
theorem parseWriteChannel_refuses (s : State) :
    Refuses 0 [(s.p 0).toNat < 16, (s.p 1).toNat ≤ 1, (s.p 2).toNat ≤ 1, true,
      (s.p 4).toNat + 256 * (s.p 5).toNat ≠ 0] (parseWriteChannel s) :=
  .checked indexArg_eq_none fun _ => .checked boolArg_eq_none fun _ => .checked boolArg_eq_none fun _ =>
    .unchecked (.checked (by rw [nonzeroArg_eq_none, join16_toNat]) fun _ => .nil)

/-- PRELOAD_WINDOW's checks in order (R41). -/
theorem parsePreload_refuses (s : State) :
    let w := (s.p 2).toNat + 256 * (s.p 3).toNat + 65536 * (s.p 4).toNat
    Refuses 0 [(s.p 0).toNat < 4, (s.p 1).toNat < 13, 16 ≤ w ∧ w ≤ s.time.windowMax.toNat] (parsePreload s) :=
  .checked indexArg_eq_none fun _ => .checked indexArg_eq_none fun _ =>
    .checked (by rw [rangeArg_eq_none, join24_toNat]) fun _ => .nil

/-- READ_ENTRY's checks in order (R57). -/
theorem parseReadEntry_refuses (s : State) :
    Refuses 0 [(s.p 8).toNat ≤ 1, (s.p 0).toNat < 32] (parseReadEntry s) :=
  .checked boolArg_eq_none fun _ => .checked indexArg_eq_none fun _ => .nil

section Accepted
variable {s : State}

theorem argAt_index {n : Nat} {pos b : Byte} {i : Fin n} (index : i.val = b.toNat) :
    argAt pos (indexArg n b) = .ok i := by
  rw [indexArg_some index]
  rfl

theorem argAt_outside {n : Nat} {pos b : Byte} (out : n ≤ b.toNat) : argAt pos (indexArg n b) = .error pos := by
  rw [indexArg_none out]
  rfl

/-- WRITE_CHANNEL takes a record whose fields stand in PARAM (R29). -/
theorem parseWriteChannel_ok {i : Fin 16} {c : Channel} (index : i.val = (s.p 0).toNat)
    (enabled : c.enabled.toNat = (s.p 1).toNat) (ac : c.ac.toNat = (s.p 2).toNat) (settle : c.settle = s.p 3)
    (minCount : c.minCount = join16 (s.p 5) (s.p 4)) (nonzero : c.minCount ≠ 0) (imbalance : c.imbalance = s.p 6) :
    parseWriteChannel s = .ok (i, c) := by
  rw [minCount] at nonzero
  rw [parseWriteChannel, indexArg_some index, boolArg_some enabled, boolArg_some ac, nonzeroArg_some nonzero, ← settle,
    ← minCount, ← imbalance]
  rfl

/-- WRITE_REFERENCE takes its settle (R33). -/
theorem parseWriteReference_ok {r : Fin 4} (index : r.val = (s.p 0).toNat) :
    parseWriteReference s = .ok (r, s.p 1) := by
  rw [parseWriteReference, indexArg_some index]
  rfl

/-- WRITE_ENTRY takes an entry whose fields stand in PARAM (R54). -/
theorem parseWriteEntry_ok {i : Fin 32} {e : Entry} (index : i.val = (s.p 0).toNat)
    (channel : e.channel.val = (s.p 1).toNat) (reference : e.reference.val = (s.p 2).toNat)
    (target : e.target.val = (s.p 3).toNat) (repeatCode : e.repeatCode.val = (s.p 4).toNat)
    (fresh : e.fresh.toNat = (s.p 5).toNat) (slot : (e.slot.map Fin.val).getD 255 = (s.p 6).toNat)
    (tag : e.tag = s.p 7) : parseWriteEntry s = .ok (i, e) := by
  rw [parseWriteEntry, indexArg_some index, indexArg_some channel, indexArg_some reference, indexArg_some target,
    indexArg_some repeatCode, boolArg_some fresh, slotArg_some slot, ← tag]
  rfl

/-- WRITE_SLOT takes a configuration whose fields stand in PARAM (R137), with the live state of a slot just written
(R138). -/
theorem parseWriteSlot_ok {i : Fin 16} {l : LimitSlot} (index : i.val = (s.p 0).toNat)
    (enabled : l.enabled.toNat = (s.p 1).toNat) (low : l.low = join24 (s.p 4) (s.p 3) (s.p 2))
    (high : l.high = join24 (s.p 7) (s.p 6) (s.p 5)) (hysteresis : l.hysteresis = join24 (s.p 10) (s.p 9) (s.p 8))
    (persistence : l.persistence = (s.p 11).toNat) (inRange : 1 ≤ l.persistence ∧ l.persistence ≤ 15)
    (ordered : l.low ≤ l.high) :
    parseWriteSlot s = .ok (i, { l with state := none, pendingDir := none, pendingCount := 0 }) := by
  have inOrder : l.low.toNat ≤ l.high.toNat := ordered
  rw [parseWriteSlot, indexArg_some index, boolArg_some enabled, ← persistence, rangeArg_some inRange, ← low, ← high,
    ← hysteresis]
  exact if_pos inOrder

/-- PRELOAD_WINDOW takes a key and a window in range (R41). -/
theorem parsePreload_ok {r : Fin 4} {k : Fin 13} (reference : r.val = (s.p 0).toNat) (target : k.val = (s.p 1).toNat)
    {w : Nat} (window : w = (s.p 2).toNat + 256 * (s.p 3).toNat + 65536 * (s.p 4).toNat)
    (inRange : 16 ≤ w ∧ w ≤ s.time.windowMax.toNat) : parsePreload s = .ok (r, k, w) := by
  rw [parsePreload, indexArg_some reference, indexArg_some target, join24_toNat, ← window, rangeArg_some inRange]
  rfl

/-- READ_ENTRY takes its selector and then its index (R57). -/
theorem parseReadEntry_ok {edit : Bool} {i : Fin 32} (selector : edit.toNat = (s.p 8).toNat)
    (index : i.val = (s.p 0).toNat) : parseReadEntry s = .ok (edit, i) := by
  rw [parseReadEntry, boolArg_some selector, indexArg_some index]
  rfl

/-! ### Command rows with arguments -/

variable {α : Type} {x : Command} {parsed : Except Byte α} {k : α → Answer}

/-- A command whose arguments do not parse answers BAD_ARG and changes nothing else (R191). -/
theorem commandRow_badArg (h : WritingAt 0x00#7 s) (run : runCommand x s = withArgs s parsed k) {d : Byte}
    (bad : parsed = .error d) : commandRow x (runCommand x) s = s.answered x.code .badArg d := by
  rw [commandRow_taken x s h, run, bad]
  rfl

/-- A command whose arguments parse goes on with them (R190). -/
theorem commandRow_parsed (h : WritingAt 0x00#7 s) (run : runCommand x s = withArgs s parsed k) {a : α}
    (ok : parsed = .ok a) :
    commandRow x (runCommand x) s = (k a).state.answered x.code (k a).result (k a).detail := by
  rw [commandRow_taken x s h, run, ok]
  rfl

/-- The refusal by the position of the first argument out of range. -/
theorem commandRow_firstBad (h : WritingAt 0x00#7 s) (run : runCommand x s = withArgs s parsed k) {oks : List Bool}
    (refuses : Refuses 0 oks parsed) {d : Nat} (bad : firstBad oks = some d) :
    commandRow x (runCommand x) s = s.answered x.code .badArg (BitVec.ofNat 8 d) :=
  commandRow_badArg h run ((refuses d bad).trans (by rw [Nat.zero_add]))

end Accepted

end Sys2Proof.Machine
end

section
/-! SUPPORT. The commands of the tables and the cache (02), the READ commands (R31, R35, R47, R57, R139), and the
registers of one byte. -/

namespace Sys2Proof.Machine

/-! ### The tables -/

/-- The slots of one reference become invalid, in the words of the statements (R44). -/
theorem invalidateReference_eq (c : Cache) (r : Fin 4) :
    c.invalidateReference r = { c with slots := c.slots.filter fun e => decide (e.reference ≠ r) } := by
  simp only [ne_eq, decide_not]
  rfl

/-- Settles O21: the two table writes, each by its parse. -/
theorem tableWritesReplaceTheirRecord : Obligations.TableWritesReplaceTheirRecord := by
  intro s h
  refine ⟨fun d bad => ?_, fun i c index enabled ac settle minCount nonzero imbalance => ?_, fun out => ?_,
    fun r index => ?_⟩ <;> refine congrArg Host.Outcome.next ?_
  · exact commandRow_firstBad (x := .writeChannel) h rfl (parseWriteChannel_refuses s) bad
  · have joined : c.minCount = join16 (s.p 5) (s.p 4) :=
      BitVec.eq_of_toNat_eq (minCount.trans (join16_toNat _ _).symm)
    exact commandRow_parsed (x := .writeChannel) h rfl
      (parseWriteChannel_ok index enabled ac settle joined nonzero imbalance)
  · refine commandRow_badArg (x := .writeReference) h rfl ?_
    rw [parseWriteReference, indexArg_none out]
    rfl
  · refine (commandRow_parsed (x := .writeReference) h rfl (parseWriteReference_ok index)).trans ?_
    dsimp only
    rw [invalidateReference_eq]
    rfl

/-- Settles O23: each READ answer holds the fields where the WRITE command's parse takes them. -/
theorem readAnswersAreWriteArguments : Obligations.ReadAnswersAreWriteArguments := by
  intro s
  refine ⟨fun i c nonzero => ?_, fun r x => ⟨?_, rfl⟩, fun edit i n e => ⟨?_, ?_, ?_⟩, fun i l law => ?_⟩
  · exact parseWriteChannel_ok (index_toNat i) (byteOfBool_toNat _) (byteOfBool_toNat _) rfl (join16_bytes _).symm
      nonzero rfl
  · exact parseWriteReference_ok (index_toNat r)
  · exact parseWriteEntry_ok (index_toNat i) (index_toNat e.channel) (index_toNat e.reference) (index_toNat e.target)
      (index_toNat e.repeatCode) (byteOfBool_toNat _) (slotByte_toNat _) rfl
  · exact (byteOfBool_toNat edit).symm
  · exact (index_toNat n).symm
  · obtain ⟨-, -, -, positive, most, ordered⟩ := law
    have persistence : l.persistence = (byteOf l.persistence 0).toNat := by
      rw [byteOf_toNat, Nat.pow_zero, Nat.div_one, Nat.mod_eq_of_lt (most.trans_lt (by decide))]
    exact parseWriteSlot_ok (index_toNat i) (byteOfBool_toNat _) (join24_bytes _).symm
      (join24_bytes _).symm (join24_bytes _).symm persistence ⟨positive, most⟩ ordered

/-! ### The cache -/

/-- A store keeps the slots of the other keys where they leave a place, and else all but the least recent (R40). -/
theorem store_eq {s : State} (law : CacheLaw s) (r : Fin 4) (k : Fin 13) (w : Nat) :
    s.cache.store r k w =
      { s.cache with slots := { reference := r, target := k, window := w, age := 0 } ::
          if (s.otherKeys r k).length = 8 then (s.otherKeys r k).take 7 else s.otherKeys r k } := by
  obtain ⟨few, -, -⟩ := law
  have fewer : (s.otherKeys r k).length ≤ 8 := (List.length_filter_le _ _).trans few
  have kept : (s.otherKeys r k).take 7 = if (s.otherKeys r k).length = 8 then (s.otherKeys r k).take 7
      else s.otherKeys r k := by
    split
    · rfl
    · exact List.take_of_length_le (by omega)
  rw [← kept]
  rfl

/-- Settles O24: PRELOAD_WINDOW by its parse and its store, INVALIDATE_CACHE as it is. -/
theorem cacheCommandsStoreAndInvalidate : Obligations.CacheCommandsStoreAndInvalidate := by
  intro s h
  refine ⟨fun d bad => ?_, fun r k reference target low high law => ?_, ?_⟩ <;> refine congrArg Host.Outcome.next ?_
  · exact commandRow_firstBad (x := .preloadWindow) h rfl (parsePreload_refuses s) bad
  · refine (commandRow_parsed (x := .preloadWindow) h rfl
      (parsePreload_ok reference target rfl ⟨low, high⟩)).trans ?_
    dsimp only
    rw [store_eq law]
    rfl
  · exact commandRow_taken .invalidateCache s h

/-! ### The READ commands -/

/-- The byte of a slot's state (R134). -/
theorem stateCode_byte (x : Option Band) :
    0#6 ++ stateCode x = match x with | none => 0#8 | some .inBand => 1#8 | some .low => 2#8 | some .high => 3#8 := by
  rcases x with _ | _ | _ | _ <;> rfl

/-- The byte of a pending direction (R134). -/
theorem directionCode_byte (x : Option Band) :
    0#6 ++ directionCode x =
      match x with | none => 0#8 | some .low => 1#8 | some .high => 2#8 | some .inBand => 3#8 := by
  rcases x with _ | _ | _ | _ <;> rfl

/-- Settles O22: each READ command by its parse, and its answer byte by byte. -/
theorem readCommandsAnswerInParam : Obligations.ReadCommandsAnswerInParam := by
  intro s h
  refine ⟨fun out => ?_, fun i index => ?_, fun out => ?_, fun r index => ?_, fun out => ?_,
    fun i e index valid => ?_, fun i index invalid => ?_, fun out => ?_, fun selector out => ?_,
    fun edit i selector index => ?_, fun out => ?_, fun i index => ?_⟩ <;> refine congrArg Host.Outcome.next ?_
  · exact commandRow_badArg (x := .readChannel) h rfl (argAt_outside out)
  · refine (commandRow_parsed (x := .readChannel) h rfl (argAt_index index)).trans ?_
    simp only [channelParam, ofNat_of_toNat index, byteOf_eq_extract]
    rfl
  · exact commandRow_badArg (x := .readReference) h rfl (argAt_outside out)
  · refine (commandRow_parsed (x := .readReference) h rfl (argAt_index index)).trans ?_
    simp only [referenceParam, ofNat_of_toNat index]
    rfl
  · exact commandRow_badArg (x := .readCache) h rfl (argAt_outside out)
  · refine (commandRow_parsed (x := .readCache) h rfl (argAt_index index)).trans ?_
    simp only [valid, cacheParam, ofNat_of_toNat index, byteOf_zero]
    rfl
  · refine (commandRow_parsed (x := .readCache) h rfl (argAt_index index)).trans ?_
    simp only [invalid, cacheParam, ofNat_of_toNat index]
    rfl
  · refine commandRow_badArg (x := .readEntry) h rfl ?_
    rw [parseReadEntry, boolArg_none out]
    rfl
  · exact commandRow_firstBad (x := .readEntry) h rfl (parseReadEntry_refuses s)
      (by simp [firstBad_cons, selector, Nat.not_lt.2 out])
  · refine (commandRow_parsed (x := .readEntry) h rfl (parseReadEntry_ok selector index)).trans ?_
    have selected : byteOfBool edit = s.p 8 := BitVec.eq_of_toNat_eq ((byteOfBool_toNat edit).symm.trans selector)
    simp only [entryParam, ofNat_of_toNat index, selected]
    rfl
  · exact commandRow_badArg (x := .readSlot) h rfl (argAt_outside out)
  · refine (commandRow_parsed (x := .readSlot) h rfl (argAt_index index)).trans ?_
    simp only [slotParam, ofNat_of_toNat index, byteOf_eq_extract, byteOf_zero, stateCode_byte, directionCode_byte]
    rfl

/-! ### The one-byte registers -/

/-- FIFO_THRESHOLD takes 0 as 1 and a value above 32 as 32 (R130). -/
theorem threshold_eq (n : Nat) : max 1 (min n Config.fifoCapacity) = if n = 0 then 1 else if 32 < n then 32 else n := by
  simp only [Config.fifoCapacity]
  split
  · omega
  · split <;> omega

/-- CACHE_MAX_AGE takes a value above 15 as 15 (R39). -/
theorem maxAge_eq (n : Nat) : min n Config.maxAge = if 15 < n then 15 else n := by
  simp only [Config.maxAge]
  split <;> omega

/-- Writing 1 clears a flag, writing 0 leaves it (R165). -/
theorem clearFlags_getLsbD (flags v : Byte) (i : Nat) :
    (flags &&& ~~~v).getLsbD i = (flags.getLsbD i && !v.getLsbD i) := by
  rw [BitVec.getLsbD_and, BitVec.getLsbD_not]
  rcases Nat.lt_or_ge i 8 with h | h
  · rw [decide_eq_true h, Bool.true_and]
  · rw [BitVec.getLsbD_of_ge flags i h, Bool.false_and, Bool.false_and]

/-- Settles O34: each register's write row, taken, with the value it takes. -/
theorem oneByteRegistersTakeTheirByte : Obligations.OneByteRegistersTakeTheirByte := by
  intro s v
  refine ⟨fun h => ?_, fun h => ?_, fun h => ?_,
    fun h => ⟨s.attn.flags &&& ~~~v, clearFlags_getLsbD _ v, ?_⟩, fun h => ?_⟩ <;>
    refine congrArg Host.Outcome.next ((writeRow_taken _ _ s h).trans ?_)
  · rfl
  · rw [writeFifoThreshold, threshold_eq]
  · rw [writeCacheMaxAge, maxAge_eq]
  · rfl
  · rfl

end Sys2Proof.Machine
end

section
/-! SUPPORT. The editing commands of the scan list, COMMIT and the swap (03, R54, R55, R59, R61). -/

namespace Sys2Proof.Machine

/-! ### The swap -/

namespace ScanList

variable {l : ScanList}

/-- A claim with no commit waiting (R61). -/
theorem claimSwap_clear (clear : l.pendingFlag = false) : l.claimSwap = l := if_neg (Bool.not_eq_true _ ▸ clear)

/-- A claim with a commit waiting: both banks take the committed one and the pointer flips (R61). -/
theorem claimSwap_committed (pending : l.pendingFlag = true) :
    l.claimSwap.active ≠ l.active ∧ l.claimSwap.bankA = l.editBank ∧ l.claimSwap.bankB = l.editBank := by
  rw [claimSwap, if_pos pending]
  cases l.active <;> exact ⟨nofun, rfl, rfl⟩

/-- No commit waits after a claim (R61). -/
@[simp] theorem claimSwap_pendingFlag : l.claimSwap.pendingFlag = false := by
  cases h : l.pendingFlag
  · rw [claimSwap_clear h, h]
  · rw [claimSwap, if_pos h]

end ScanList

/-! ### Edits -/

/-- A limit slot byte that is neither a slot nor 255 is refused, and no other (R51). -/
theorem slotArg_eq_none {b : Byte} : slotArg b = none ↔ ¬(b.toNat < 16 ∨ b = 255) := by
  refine ⟨?_, fun out => ?_⟩
  · rintro refused (slot | rfl)
    · cases refused.symm.trans (slotArg_some (x := some ⟨b.toNat, slot⟩) rfl)
    · cases refused
  · obtain ⟨high, named⟩ := not_or.1 out
    exact slotArg_none (Nat.le_of_not_lt high) named

/-- WRITE_ENTRY's checks in order (R54). -/
theorem parseWriteEntry_refuses (s : State) :
    Refuses 0 [(s.p 0).toNat < 32, (s.p 1).toNat < 16, (s.p 2).toNat < 4, (s.p 3).toNat < 13, (s.p 4).toNat < 4,
      (s.p 5).toNat ≤ 1, (s.p 6).toNat < 16 ∨ s.p 6 = 255] (parseWriteEntry s) :=
  .checked indexArg_eq_none fun _ => .checked indexArg_eq_none fun _ => .checked indexArg_eq_none fun _ =>
    .checked indexArg_eq_none fun _ => .checked indexArg_eq_none fun _ => .checked boolArg_eq_none fun _ =>
      .checked slotArg_eq_none fun _ => .nil

/-- An edit is refused while a commit waits (R54, R55). -/
theorem setLength_pending {s : State} (pending : s.list.pendingFlag = true) : setLength s = refuse s .listPending 0 :=
  if_pos pending

theorem writeEntry_pending {s : State} (pending : s.list.pendingFlag = true) :
    writeEntry s = refuse s .listPending 0 :=
  if_pos pending

/-- With no commit waiting, SET_LENGTH goes by its argument (R55). -/
theorem setLength_clear {s : State} (clear : s.list.pendingFlag = false) :
    setLength s = withArgs s (parseSetLength s) fun n =>
      done { s with list := s.list.withEditBank { s.list.editBank with length := n } } (s.p 0) :=
  if_neg (Bool.not_eq_true _ ▸ clear)

/-- With no commit waiting, WRITE_ENTRY goes by its arguments (R54). -/
theorem writeEntry_clear {s : State} (clear : s.list.pendingFlag = false) :
    writeEntry s = withArgs s (parseWriteEntry s) fun (i, e) =>
      done { s with list := s.list.withEditBank
                      { s.list.editBank with entries := s.list.editBank.entries.set i e } } (s.p 0) :=
  if_neg (Bool.not_eq_true _ ▸ clear)

/-- Settles O19: each edit by the pending flag, and then by its parse. -/
theorem listEditsReachTheEditBank : Obligations.ListEditsReachTheEditBank := by
  intro s h
  refine ⟨fun pending => ⟨?_, ?_⟩, fun clear => ⟨fun out => ?_, fun n length => ?_, fun d bad => ?_,
    fun i e index channel reference target repeatCode fresh slot tag => ?_⟩⟩ <;> refine congrArg Host.Outcome.next ?_
  · rw [commandRow_taken .setLength s h, runCommand, setLength_pending pending]
    rfl
  · rw [commandRow_taken .writeEntry s h, runCommand, writeEntry_pending pending]
    rfl
  · exact commandRow_badArg (x := .setLength) h (setLength_clear clear) (argAt_outside out)
  · exact commandRow_parsed (x := .setLength) h (setLength_clear clear) (argAt_index length)
  · exact commandRow_firstBad (x := .writeEntry) h (writeEntry_clear clear) (parseWriteEntry_refuses s) bad
  · exact commandRow_parsed (x := .writeEntry) h (writeEntry_clear clear)
      (parseWriteEntry_ok index channel reference target repeatCode fresh slot tag)

/-! ### COMMIT -/

/-- COMMIT of an empty edit bank (R59). -/
theorem commit_empty {s : State} (empty : s.list.editBank.length = 0) : commit s = refuse s .emptyList 0 := if_pos empty

/-- COMMIT while a commit waits (R59). -/
theorem commit_pending {s : State} (filled : s.list.editBank.length ≠ 0) (pending : s.list.pendingFlag = true) :
    commit s = refuse s .listPending 0 :=
  (if_neg filled).trans (if_pos pending)

/-- COMMIT, taken: the flag is set, and in IDLE the swap follows (R59). -/
theorem commit_taken {s : State} (filled : s.list.editBank.length ≠ 0) (clear : s.list.pendingFlag = false) :
    commit s =
      if s.ctl.state = .idle then done (claimSwap { s with list := { s.list with pendingFlag := true } }) 1
      else done { s with list := { s.list with pendingFlag := true } } 0 :=
  (if_neg filled).trans (if_neg (Bool.not_eq_true _ ▸ clear))

/-- Settles O20: COMMIT by the edit bank's length, the pending flag and the state, the swap by the flag. -/
theorem commitAndSwap : Obligations.CommitAndSwap := by
  refine ⟨fun s h => ⟨fun empty => ?_, fun filled pending => ?_, fun filled clear => ⟨fun idle => ?_, fun busy => ?_⟩⟩,
    fun s idle => ⟨fun clear => ?_, fun pending => ?_⟩⟩
  · refine congrArg Host.Outcome.next ?_
    rw [commandRow_taken .commit s h, runCommand, commit_empty empty]
    rfl
  · refine congrArg Host.Outcome.next ?_
    rw [commandRow_taken .commit s h, runCommand, commit_pending filled pending]
    rfl
  · refine ⟨_, congrArg Host.Outcome.next (if_pos idle), congrArg Host.Outcome.next ?_⟩
    rw [commandRow_taken .commit s h, runCommand, commit_taken filled clear, if_pos idle]
    rfl
  · refine congrArg Host.Outcome.next ?_
    rw [commandRow_taken .commit s h, runCommand, commit_taken filled clear, if_neg busy]
    rfl
  · refine congrArg Host.Outcome.next ((if_pos idle).trans ?_)
    rw [claimSwap, ScanList.claimSwap_clear clear]
  · obtain ⟨flips, bankA, bankB⟩ := ScanList.claimSwap_committed pending
    exact ⟨_, congrArg Host.Outcome.next (if_pos idle), flips, bankA, bankB, ScanList.claimSwap_pendingFlag⟩

end Sys2Proof.Machine
end

section
/-! SUPPORT. The frame of the host port and its pins through every command, and their law (R182, R184, R194). -/

namespace Sys2Proof.Machine

/-- The frame state, CS_N, RST_N and the supply are as they were. -/
structure SameFrame (s t : State) : Prop where
  frame : t.port.frame = s.port.frame
  csLow : t.pins.csLow = s.pins.csLow
  rstLow : t.pins.rstLow = s.pins.rstLow
  supplyGood : t.pins.supplyGood = s.pins.supplyGood

namespace SameFrame

variable {s t u : State}

theorem rfl : SameFrame s s := by constructor <;> rfl

theorem trans (h : SameFrame s t) (k : SameFrame t u) : SameFrame s u :=
  ⟨k.frame.trans h.frame, k.csLow.trans h.csLow, k.rstLow.trans h.rstLow, k.supplyGood.trans h.supplyGood⟩

theorem of_pins (frame : t.port.frame = s.port.frame) (pins : t.pins = s.pins) : SameFrame s t := by
  constructor <;> simp only [frame, pins]

end SameFrame

theorem CommandFrame.sameFrame {s t : State} (h : CommandFrame s t) : SameFrame s t := by
  obtain ⟨param, port⟩ := h.port
  exact .of_pins (by rw [port]) h.pins

theorem OuterFrame.sameFrame {s t : State} (h : OuterFrame s t) : SameFrame s t := h.command.sameFrame

/-! ### Register accesses -/

theorem takeCode_sameFrame (v : Byte) (s : State) : SameFrame s (takeCode v s) := by
  unfold takeCode
  split
  · next x _ => exact (runCommand_frame x s).sameFrame.trans (.of_pins rfl rfl)
  · exact .of_pins rfl rfl

theorem stage_sameFrame (which : StagedByte) (v : Byte) (s : State) : SameFrame s (stage which v s) := by
  cases which <;> exact .of_pins rfl rfl

theorem writeParam_sameFrame (a : Addr) (v : Byte) (s : State) : SameFrame s (writeParam a v s) := by
  unfold writeParam
  split <;> exact .of_pins rfl rfl

theorem writeValue_sameFrame (a : Addr) (v : Byte) (s : State) : SameFrame s (writeValue a v s) := by
  unfold writeValue
  split
  · exact takeCode_sameFrame v s
  iterate 12 exact .of_pins rfl rfl
  · exact writeParam_sameFrame a v s

/-- A write row leaves the frame where what it writes does. -/
theorem writeRow_sameFrame (a : Addr) {f : State → State} {s : State} (h : SameFrame s (f s)) :
    SameFrame s (writeRow a f s) :=
  guarded_keeps .rfl (h.trans (.of_pins (t := advance (f s)) rfl rfl))

theorem commandRow_sameFrame (x : Command) (s : State) : SameFrame s (commandRow x (runCommand x) s) :=
  writeRow_sameFrame _ ((runCommand_frame x s).sameFrame.trans (.of_pins rfl rfl))

theorem readBytes_sameFrame (n : Nat) (s : State) : SameFrame s (readBytes n s) := by
  induction n generalizing s with
  | zero => exact .rfl
  | succ n ih =>
    obtain ⟨frame, -, pins⟩ := readByte_port s
    exact (SameFrame.of_pins frame pins).trans (ih _)

theorem readRow_sameFrame (a : Addr) (s : State) : SameFrame s (readRow a s) :=
  guarded_keeps .rfl (readBytes_sameFrame _ s)

theorem accessRow_sameFrame (a : Addr) (x : Access) (s : State) : SameFrame s (accessRow a x s) := by
  cases x with
  | read => exact readRow_sameFrame a s
  | write v => exact writeRow_sameFrame a (writeValue_sameFrame a v s)

/-! ### Clocks and TRIG -/

theorem lfRow_sameFrame (k : LfBoundary) (s : State) : SameFrame s (lfRow k s) :=
  guarded_keeps .rfl (takeLfBoundary_frame k s).sameFrame

theorem unitRow_sameFrame (s : State) : SameFrame s (unitRow s) := by
  unfold unitRow
  split <;> exact lfRow_sameFrame _ s

theorem trigChanges_sameFrame (high : Bool) (s : State) : SameFrame s (trigChanges high s) := by
  unfold trigChanges deliverEdge
  dsimp only
  split
  · exact .rfl
  · split
    · exact ⟨rfl, rfl, rfl, rfl⟩
    · split
      · refine SameFrame.trans ?_ (takeTrigger_frame _).sameFrame
        exact ⟨rfl, rfl, rfl, rfl⟩
      · exact ⟨rfl, rfl, rfl, rfl⟩

/-! ### The law -/

/-- MISO is high-impedance in IDLE alone, so the law is one of the frame state (R184). -/
theorem frameLaw_iff (s : State) : FrameLaw s ↔ (s.pins.csLow = false ∨ ¬Released s → s.port.frame = .idle) := by
  have driven : s.port.frame = .idle → s.miso = none := fun idle => by rw [State.miso, idle]
  exact ⟨fun law off => (law off).1, fun law off => ⟨law off, driven (law off)⟩⟩

theorem SameFrame.law {s t : State} (h : SameFrame s t) (law : FrameLaw s) : FrameLaw t := by
  rw [frameLaw_iff] at law ⊢
  rwa [h.frame, h.csLow, Released, h.rstLow, h.supplyGood]

theorem inReset_eq_true (s : State) : s.inReset = true ↔ ¬Released s := by
  simp only [State.inReset, Released, Bool.or_eq_true, Bool.not_eq_true', not_and_or, Bool.not_eq_false,
    Bool.not_eq_true]

/-- In IDLE the law holds, whatever the pins. -/
theorem frameLaw_of_idle {s : State} (idle : s.port.frame = .idle) : FrameLaw s := (frameLaw_iff s).2 fun _ => idle

/-- CS_N falls; outside reset a frame begins, and in reset the port stays in IDLE (R182, R194). -/
theorem csFalls_frameLaw {s : State} (law : FrameLaw s) : FrameLaw (csFalls s) := by
  unfold csFalls
  dsimp only
  split
  · exact law
  · split
    · next held => exact frameLaw_of_idle ((frameLaw_iff s).1 law (.inr ((inReset_eq_true s).1 held)))
    · next released =>
      refine (frameLaw_iff _).2 fun off => absurd off (not_or.2 ⟨nofun, fun held => ?_⟩)
      exact released ((inReset_eq_true s).2 held)

/-- The address byte comes in a frame, so CS_N is low and reset is not held (R182). -/
theorem takeAddress_frameLaw (b : Byte) {s : State} (law : FrameLaw s) : FrameLaw (takeAddress b s) := by
  rw [frameLaw_iff] at law ⊢
  unfold takeAddress
  split
  · next address =>
    intro off
    cases (law off).symm.trans address
  · exact law

theorem csRises_frameLaw (reads : Nat) {s : State} (law : FrameLaw s) : FrameLaw (csRises reads s) :=
  guarded_keeps law (frameLaw_of_idle rfl)

/-- A hard reset sets the frame state to IDLE (R194). -/
theorem hardResetValues_frameLaw (s : State) : FrameLaw (hardResetValues s) := frameLaw_of_idle rfl

/-- While RST_N is low the port stands in IDLE, and the release leaves it there (R194). -/
theorem rstRises_frameLaw {s : State} (law : FrameLaw s) : FrameLaw (rstRises s) := by
  unfold rstRises
  dsimp only
  split
  · next low =>
    have idle : s.port.frame = .idle := (frameLaw_iff s).1 law (.inr fun ⟨high, _⟩ => by simp [high] at low)
    split <;> exact frameLaw_of_idle idle
  · exact law

/-- While the supply is low the port stands in IDLE, and its rise leaves it there (R195). -/
theorem supplyCrosses_frameLaw (above : Bool) {s : State} (law : FrameLaw s) : FrameLaw (supplyCrosses above s) := by
  unfold supplyCrosses
  dsimp only
  split
  · exact law
  · next crosses =>
    split
    · next rises =>
      have idle : s.port.frame = .idle :=
        (frameLaw_iff s).1 law (.inr fun ⟨_, good⟩ => crosses (good.trans rises.symm))
      split <;> exact frameLaw_of_idle idle
    · exact hardResetValues_frameLaw _

/-- Every command keeps the law of the frame. -/
theorem exec_frameLaw (i : Instr) {s : State} (law : FrameLaw s) : ∃ t, exec i s = .next t ∧ FrameLaw t := by
  cases i
  case frameStart => exact ⟨_, rfl, csFalls_frameLaw law⟩
  case addressByte b => exact ⟨_, rfl, takeAddress_frameLaw b law⟩
  case frameEnd reads => exact ⟨_, rfl, csRises_frameLaw reads law⟩
  case hardReset => exact ⟨_, rfl, hardResetValues_frameLaw _⟩
  case resetRelease => exact ⟨_, rfl, rstRises_frameLaw law⟩
  case powerOnReset above => exact ⟨_, rfl, supplyCrosses_frameLaw above law⟩
  case startSingle | startTimed | armTrigger | stop | abort | resetEngine | setLength | writeEntry | readEntry |
      commit | writeChannel | readChannel | writeReference | readReference | preloadWindow | readCache |
      invalidateCache | spot | cancelSpot | flushFifo | writeSlot | readSlot | setClock =>
    exact ⟨_, rfl, (commandRow_sameFrame _ s).law law⟩
  case unknownCommand code => exact ⟨_, rfl, (writeRow_sameFrame _ (takeCode_sameFrame code s)).law law⟩
  case resultByte0Read | resultByte15Read | eventByte0Read | eventByte7Read | spotByte0Read | snapshotLowByteRead =>
    exact ⟨_, rfl, (readRow_sameFrame _ s).law law⟩
  case stagingByteWrite which v => exact ⟨_, rfl, (writeRow_sameFrame _ (stage_sameFrame which v s)).law law⟩
  case scanCountWrite | scanIntervalWrite | windowMaxWrite | scanCtrlWrite | fifoThresholdWrite | cacheMaxAgeWrite |
      attnFlagsWrite | attnEnableWrite =>
    exact ⟨_, rfl, (writeRow_sameFrame _ (.of_pins rfl rfl)).law law⟩
  case registerWrite a x => exact ⟨_, rfl, (accessRow_sameFrame a x s).law law⟩
  case trigEdge high => exact ⟨_, rfl, (trigChanges_sameFrame high s).law law⟩
  case scanTimerUnit => exact ⟨_, rfl, (unitRow_sameFrame s).law law⟩
  case scanTimerExpiry => exact ⟨_, rfl, (lfRow_sameFrame _ s).law law⟩
  case lfPeriodBoundary => exact ⟨_, rfl, (takeLfBoundary_frame _ s).sameFrame.law law⟩
  case grant => exact ⟨_, rfl, (arbitrate_frame s).sameFrame.law law⟩
  case refSettleExpiry | refTimeout | snsSettleExpiry | firstHalfEnd | windowEnd =>
    exact ⟨_, rfl, guarded_keeps law ((takeBoundary_frame _ s).sameFrame.law law)⟩
  case openingEdge | referenceComplete | sensorOverrange =>
    exact ⟨_, rfl, guarded_keeps law ((takeEdge_frame _ s).sameFrame.law law)⟩
  case periodBoundary => exact ⟨_, rfl, (takeBoundary_frame _ s).sameFrame.law law⟩
  case oscillatorEdge => exact ⟨_, rfl, (takeEdge_frame _ s).sameFrame.law law⟩
  case heldStartRetry | pendingTriggerStart =>
    exact ⟨_, rfl, guarded_keeps law ((attemptStart_frame s).sameFrame.law law)⟩
  case heldRecordReoffer => exact ⟨_, rfl, guarded_keeps law ((reofferRecord_frame s).sameFrame.law law)⟩
  case swap => exact ⟨_, rfl, guarded_keeps law (SameFrame.law (.of_pins rfl rfl) law)⟩

/-- Every step keeps the law of the frame. -/
theorem step_frameLaw {s t : State} (law : FrameLaw s) (run : step s = .next t) : FrameLaw t := by
  unfold step at run
  split at run
  · cases run
    exact law
  · next i rest _ =>
    have waits : SameFrame s { s with pending := rest } := .of_pins rfl rfl
    obtain ⟨u, run', law'⟩ := exec_frameLaw i (waits.law law)
    cases run'.symm.trans run
    exact law'

end Sys2Proof.Machine
end

section
/-! SUPPORT. The course of the scan controller, its list and its timer (03, 04, 09): everything that a step can do to
them, said once, move by move. -/

namespace Sys2Proof.Machine

/-! ### The course -/

/-- The scan timer (R174) with SCAN_INTERVAL (R177). -/
structure ScanTimer where
  running : Bool
  remaining : Nat
  prescaler : Nat
  interval : BitVec 16

/-- Where the scan controller stands with its list and its timer: what decides when a scan starts, which bank it reads
and when it ends. -/
structure Course where
  state : EngineState
  seq : BitVec 16
  entryIndex : Fin 32
  triggered : Bool
  list : ScanList
  timer : ScanTimer

/-- The scan timer within the time base. -/
def TimeBase.timer (t : TimeBase) : ScanTimer :=
  { running := t.timerRunning, remaining := t.timerRemaining, prescaler := t.prescaler, interval := t.scanInterval }

/-- The course of the part. -/
def State.course (s : State) : Course :=
  { state := s.ctl.state, seq := s.ctl.seq, entryIndex := s.ctl.entryIndex, triggered := s.ctl.pendingTrigger,
    list := s.list, timer := s.time.timer }

/-- The timer stopped and cleared (R178). -/
def ScanTimer.stopped (t : ScanTimer) : ScanTimer := { t with running := false, remaining := 0, prescaler := 0 }

/-- The timer running from SCAN_INTERVAL (R175, R176). -/
def ScanTimer.loaded (t : ScanTimer) : ScanTimer :=
  { t with running := true, remaining := t.interval.toNat, prescaler := 0 }

/-- The entry into IDLE (R62, R89, R178). -/
def Course.atRest (c : Course) : Course :=
  { c with state := .idle, triggered := false, list := c.list.claimSwap, timer := c.timer.stopped }

/-- What a scan start attempt makes of the course (R74 to R76). -/
inductive Course.Attempt (c : Course) : Course → Prop where
  | started : c.Attempt { c with state := .scanning, seq := c.seq + 1, entryIndex := 0, triggered := false,
                                 list := c.list.claimSwap }
  | skipped : c.Attempt { c with state := .armed, triggered := false, list := c.list.claimSwap }
  | held : c.Attempt { c with state := .holdStart, triggered := true, list := c.list.claimSwap }

/-- What one rule does to the course, beside the stimuli below. -/
inductive CourseMove : Course → Course → Prop where
  /-- The walk moves to the next entry inside the active bank (R87). -/
  | advanced {c : Course} {i : Fin 32} (inside : i.val < c.list.activeBank.length.val) :
      CourseMove c { c with entryIndex := i }
  /-- A record is held (R82). -/
  | recordHeld {c : Course} (scanning : c.state = .scanning) : CourseMove c { c with state := .holdRecord }
  /-- A held record has found its place (R83). -/
  | recordTaken {c : Course} (held : c.state = .holdRecord) : CourseMove c { c with state := .scanning }
  /-- The controller enters IDLE (R62, R89, R178). -/
  | rested (c : Course) : CourseMove c c.atRest
  /-- A scan ends in ARMED (R89). -/
  | armed {c : Course} (scanning : c.state = .scanning) : CourseMove c { c with state := .armed }
  /-- A held start, or a trigger latched before the scan's end, makes an attempt (R77, R89). -/
  | attempted {c d : Course} (waits : c.state = .holdStart ∨ c.state = .armed ∧ c.triggered = true)
      (attempt : c.Attempt d) : CourseMove c d
  /-- The edit bank is written while no commit waits (R54, R55). -/
  | edited {c : Course} (b : Bank) (clear : c.list.pendingFlag = false) :
      CourseMove c { c with list := c.list.withEditBank b }
  /-- COMMIT outside IDLE (R59). -/
  | committed {c : Course} (busy : c.state ≠ .idle) (filled : c.list.editBank.length ≠ 0) :
      CourseMove c { c with list := { c.list with pendingFlag := true } }
  /-- The swap is claimed in IDLE, by COMMIT in the step in which it sets the flag (R59, R61, R62). -/
  | swapped {c : Course} (flag : Bool) (idle : c.state = .idle) :
      CourseMove c { c with list := { c.list with pendingFlag := flag }.claimSwap }
  /-- The prescaler counts an LF period (R174). -/
  | ticked {c : Course} (running : c.timer.running = true) (within : c.timer.prescaler + 1 < Config.unitPeriods) :
      CourseMove c { c with timer := { c.timer with prescaler := c.timer.prescaler + 1 } }
  /-- A unit ends that leaves units remaining (R174). -/
  | unitEnded {c : Course} (running : c.timer.running = true) (more : 1 < c.timer.remaining) :
      CourseMove c { c with timer := { c.timer with prescaler := 0, remaining := c.timer.remaining - 1 } }
  /-- The timer expires and runs on (R176). -/
  | reloaded {c : Course} (running : c.timer.running = true) : CourseMove c { c with timer := c.timer.loaded }
  /-- SCAN_INTERVAL takes effect (R177). -/
  | intervalSet {c : Course} (v : BitVec 16) (nonzero : v ≠ 0) :
      CourseMove c { c with timer := { c.timer with interval := v } }
  /-- RESET_ENGINE (R67, R193). -/
  | engineReset (c : Course) : CourseMove c { c.atRest with entryIndex := 0 }
  /-- A hard reset (R52, R66, R174, R194). -/
  | hardReset (c : Course) : CourseMove c State.reset.course

/-- What comes from outside and starts a run or a scan, the timer loaded in the same step where it is an expiry or
START_TIMED. A step takes at most one, as its first change of the course. -/
inductive Stimulus (c : Course) : Course → Prop where
  /-- A trigger in ARMED makes an attempt (R90). -/
  | fires {t : ScanTimer} {d : Course} (timer : t = c.timer ∨ t = c.timer.loaded) (armed : c.state = .armed)
      (attempt : { c with timer := t }.Attempt d) : Stimulus c d
  /-- A trigger in a scan or a hold is latched (R90). -/
  | latched {t : ScanTimer} (timer : t = c.timer ∨ t = c.timer.loaded) (busy : c.state ≠ .idle) :
      Stimulus c { c with timer := t, triggered := true }
  /-- START_SINGLE or START_TIMED is accepted and makes an attempt (R70 to R72). -/
  | commanded {t : ScanTimer} {d : Course} (timer : t = c.timer ∨ t = c.timer.loaded) (idle : c.state = .idle)
      (filled : c.list.activeBank.length ≠ 0) (attempt : { c with timer := t }.Attempt d) : Stimulus c d
  /-- ARM_TRIGGER is accepted (R70, R73). -/
  | armed (idle : c.state = .idle) (filled : c.list.activeBank.length ≠ 0) : Stimulus c { c with state := .armed }

/-- The course of `s` has come from `c` by moves alone. -/
def CourseFrom (c : Course) (s : State) : Prop := Relation.ReflTransGen CourseMove c s.course

/-- The course of `s` has come from `c` as it does in one step: by moves, which a stimulus may precede. -/
def CourseStepFrom (c : Course) (s : State) : Prop := ∃ d, (d = c ∨ Stimulus c d) ∧ CourseFrom d s

/-! ### Operations beside the course, and the start attempt -/

variable (s : State)

@[simp] theorem raise_course (x : Cause) : (raise x s).course = s.course := rfl
@[simp] theorem appendRecord_course (r : FifoRecord) : (appendRecord r s).course = s.course := by simp [State.course]
@[simp] theorem offerAndFlag_course (r : MeasRecord) : (offerAndFlag r s).course = s.course := by simp [State.course]
@[simp] theorem tally_course (r : MeasRecord) (d : Bool) : (tally r d s).course = s.course := rfl
@[simp] theorem closeScan_course (t : Termination) : (closeScan t s).course = s.course := by simp [State.course]

/-- A grant leaves the course. -/
theorem grantUnit_course (who : Requester) (q : Request) : (grantUnit who q (takeGrant who s)).1.course = s.course := by
  have taken : (takeGrant who s).course = s.course := by cases who <;> rfl
  rw [← taken]
  rcases grantUnit_cases who q (takeGrant who s) with ⟨-, e⟩ | ⟨-, e⟩ <;> rw [e]
  · rcases cacheStep_cases { takeGrant who s with conv := beginMeasurement who q (takeGrant who s) } with
      e | ⟨slot, -, -, e⟩ <;> rw [e] <;> rfl
  · rfl

/-- A boundary leaves the course, before an ended measurement is handed over. -/
theorem boundaryOutcome_course (k : Boundary) : (boundaryOutcome k s).1.course = s.course := by
  cases k with
  | windowEnd => exact windowEnds_keeps (P := fun out => out.1.course = s.course) rfl (fun _ => rfl) rfl
  | ignored | counted | refSettleExpiry | refTimeout | snsSettleExpiry | firstHalfEnd => rfl

/-- An edge leaves the course, before an ended measurement is handed over. -/
theorem edgeOutcome_course (k : Edge) : (edgeOutcome k s).1.course = s.course := by
  cases k with
  | referenceComplete =>
    show (referenceCompletes s).1.course = s.course
    rcases Nat.lt_or_ge s.conv.wc Config.minWindow with short | long
    · rw [referenceCompletes_short short]
      rfl
    · rw [referenceCompletes_long long]
      rfl
  | ignored | counted | openingEdge | sensorOverrange => rfl

theorem startAttempt_course : s.course.Attempt (startAttempt s).1.course := by
  rcases startAttempt_cases s with ⟨-, e⟩ | ⟨-, -, e⟩ | ⟨-, -, e⟩ <;> rw [e]
  · exact .started
  · exact .skipped
  · exact .held

variable {s}

/-- A scan end that takes up a latched trigger stands in ARMED with the trigger pending (R89). -/
theorem endScan_latched {t : Termination} (h : (endScan t s).2 = true) :
    (endScan t s).1.ctl.state = .armed ∧ (endScan t s).1.ctl.pendingTrigger = true := by
  rcases endScan_cases t s with ⟨-, e⟩ | ⟨-, e⟩ <;> rw [e] at h ⊢
  · cases h
  · exact ⟨rfl, by simpa [enterArmed] using h⟩

/-- A scan end with the scan that a latched trigger starts in the same step keeps a law that the walk keeps. -/
theorem WalkKeeps.ended {P : State → Prop} (k : WalkKeeps P) {t : Termination} (ends : P (endScan t s).1)
    (restarts : (endScan t s).2 = true → P (startAttempt (endScan t s).1).1) : P (continueWalk (s, .ends t)) := by
  have started := startAttempt_started (endScan t s).1
  show P (match endScan t s with
    | (u, false) => u
    | (u, true) => match startAttempt u with
      | (v, true) => runScans 0 (v, .reaches)
      | (v, false) => v)
  revert ends restarts started
  generalize endScan t s = o
  obtain ⟨u, latched⟩ := o
  cases latched with
  | false => exact fun ends _ _ => ends
  | true =>
    dsimp only
    generalize startAttempt u = o
    obtain ⟨v, begun⟩ := o
    cases begun with
    | false => exact fun _ restarts _ => restarts rfl
    | true =>
      intro _ restarts started
      obtain ⟨scanning, untriggered⟩ := started rfl
      exact runScans_zero_keeps k v scanning (restarts rfl) untriggered

namespace CourseFrom

variable {c : Course} {t : State}

/-- An operation beside the course. -/
theorem beside (h : CourseFrom c s) (e : t.course = s.course) : CourseFrom c t := by
  unfold CourseFrom
  rw [e]
  exact h

/-- An operation that is one move. -/
theorem moved (h : CourseFrom c s) (m : CourseMove s.course t.course) : CourseFrom c t := Relation.ReflTransGen.tail h m

theorem step (h : CourseFrom c s) : CourseStepFrom c s := ⟨c, .inl rfl, h⟩

/-! ### The walk -/

theorem afterRecord (r : MeasRecord) (h : CourseFrom c s) : CourseFrom c (afterRecord r s).1 := by
  rcases afterRecord_cases r s with ⟨-, -, e⟩ | ⟨i, -, inside, e⟩ | ⟨-, e⟩ <;> rw [e]
  · exact h
  · exact h.moved (.advanced inside)
  · exact h

theorem handleRecord (r : MeasRecord) (scanning : s.ctl.state = .scanning) (h : CourseFrom c s) :
    CourseFrom c (handleRecord r s).1 := by
  have offered : CourseFrom c (offerAndFlag r s) := h.beside (offerAndFlag_course s r)
  rcases handleRecord_cases r s with ⟨-, e⟩ | ⟨-, -, e⟩ | ⟨-, -, e⟩ <;> rw [e]
  · exact afterRecord r (offered.beside (by simp))
  · exact afterRecord r (offered.beside rfl)
  · exact offered.moved (.recordHeld (by simpa [State.course] using scanning))

theorem endScan (t : Termination) (scanning : s.ctl.state = .scanning) (h : CourseFrom c s) :
    CourseFrom c (endScan t s).1 := by
  have closed : CourseFrom c (closeScan t s) := h.beside (closeScan_course s t)
  rcases endScan_cases t s with ⟨-, e⟩ | ⟨-, e⟩ <;> rw [e]
  · exact closed.moved (.rested _)
  · exact closed.moved (.armed (by simpa [State.course] using scanning))

theorem startAttempt (waits : s.ctl.state = .holdStart ∨ s.ctl.state = .armed ∧ s.ctl.pendingTrigger = true)
    (h : CourseFrom c s) : CourseFrom c (startAttempt s).1 :=
  h.moved (.attempted waits (startAttempt_course s))

theorem restart {t : Termination} (latched : (Machine.endScan t s).2 = true)
    (h : CourseFrom c (Machine.endScan t s).1) :
    CourseFrom c (Machine.startAttempt (Machine.endScan t s).1).1 :=
  h.startAttempt (.inr (endScan_latched latched))

theorem walkKeeps (c : Course) : WalkKeeps (CourseFrom c) where
  request s scanning _ h := by
    rcases reachEntry_cases s with ⟨-, e⟩ | ⟨-, e⟩ <;> rw [e]
    · exact h.beside rfl
    · exact h.handleRecord _ scanning
  moves r s scanning h _ _ := h.handleRecord r scanning
  ends r s t scanning h ended _ :=
    (h.handleRecord r scanning).endScan t ((handleRecord_ctl r s scanning).2 (by simp [ended]))
  restarts r s t scanning h ended latched :=
    ((h.handleRecord r scanning).endScan t ((handleRecord_ctl r s scanning).2 (by simp [ended]))).restart latched

theorem ended (t : Termination) (scanning : s.ctl.state = .scanning) (h : CourseFrom c s) :
    CourseFrom c (continueWalk (s, .ends t)) :=
  (walkKeeps c).ended (h.endScan t scanning) fun latched => (h.endScan t scanning).restart latched

theorem continueWalk_afterRecord (r : MeasRecord) (scanning : s.ctl.state = .scanning) (h : CourseFrom c s) :
    CourseFrom c (continueWalk (Machine.afterRecord r s)) := by
  have after := h.afterRecord r
  rcases afterRecord_cases r s with ⟨-, -, e⟩ | ⟨i, -, -, e⟩ | ⟨-, e⟩ <;> rw [e] at after ⊢
  · exact h.ended _ scanning
  · show CourseFrom c (reachOn _)
    rw [reachOn_eq]
    rcases reachEntry_cases { s with ctl := { s.ctl with entryIndex := i } } with ⟨-, w⟩ | ⟨-, w⟩ <;> rw [w]
    · exact after.beside rfl
    · exact continueWalk_handled_keeps (walkKeeps c) _ _ scanning after
  · exact h.ended _ scanning

theorem deliver (who : Requester) (r : Result) (h : CourseFrom c s) : CourseFrom c (deliver who r s) := by
  cases who with
  | spot => exact h.beside rfl
  | scan =>
    show CourseFrom c (takeScanResult r s)
    unfold takeScanResult
    split
    · next scanning => exact continueWalk_handled_keeps (walkKeeps c) _ s scanning h
    · exact h

/-! ### The unit -/

theorem arbitrate (h : CourseFrom c s) : CourseFrom c (arbitrate s) :=
  arbitrate_keeps (fun u who q _ _ _ h => h.beside (grantUnit_course u who q))
    (fun u who q _ _ _ h => deliver who _ (h.beside (grantUnit_course u who q))) s h

theorem finish (r : Result) (h : CourseFrom c s) : CourseFrom c (finish r s) := by
  have parked : CourseFrom c (parkUnit s) := h.beside rfl
  unfold Machine.finish
  split
  · exact parked.arbitrate
  · exact (parked.deliver _ r).arbitrate

theorem settleUnit {out : State × Option Result} (h : CourseFrom c out.1) : CourseFrom c (settleUnit out) := by
  obtain ⟨u, _ | r⟩ := out
  · exact h
  · exact h.finish r

theorem takeBoundary (k : Boundary) (h : CourseFrom c s) : CourseFrom c (takeBoundary k s) := by
  rw [takeBoundary_eq]
  exact settleUnit (h.beside (boundaryOutcome_course s k))

theorem takeEdge (k : Edge) (h : CourseFrom c s) : CourseFrom c (takeEdge k s) := by
  rw [takeEdge_eq]
  exact settleUnit (h.beside (edgeOutcome_course s k))

/-! ### Start attempts and room reports -/

/-- A start attempt with the rest of its step, once the attempt itself is accounted for. -/
theorem attempted (h : CourseFrom c (Machine.startAttempt s).1) : CourseFrom c (attemptStart s).1 :=
  attemptStart_keeps (walkKeeps c) (fun _ h => h.arbitrate) s h

theorem attemptStart (waits : s.ctl.state = .holdStart ∨ s.ctl.state = .armed ∧ s.ctl.pendingTrigger = true)
    (h : CourseFrom c s) : CourseFrom c (attemptStart s).1 :=
  (h.startAttempt waits).attempted

theorem reofferRecord (held : s.ctl.state = .holdRecord) (h : CourseFrom c s) : CourseFrom c (reofferRecord s) := by
  unfold Machine.reofferRecord
  split
  · exact h
  · next r _ =>
    have appended : CourseFrom c (appendRecord (.measurement r) s) := h.beside (appendRecord_course s _)
    have heldStill : (appendRecord (.measurement r) s).course.state = .holdRecord := by simpa [State.course] using held
    refine guarded_keeps h (arbitrate (continueWalk_afterRecord r rfl ?_))
    exact appended.moved (.recordTaken heldStill)

theorem roomReport (h : CourseFrom c s) : CourseFrom c (roomReport s) := by
  unfold Machine.roomReport
  split
  · next held => exact h.attemptStart (.inl held)
  · next held => exact h.reofferRecord held
  all_goals exact h

/-! ### Reads -/

theorem popResult (h : CourseFrom c s) : CourseFrom c (popResult s) := by
  unfold Machine.popResult
  split
  · exact h
  · exact roomReport (h.beside rfl)

theorem beforeRead (a : Addr) (h : CourseFrom c s) : CourseFrom c (beforeRead a s) := by
  unfold Machine.beforeRead
  split <;> exact h.beside rfl

theorem readByte (h : CourseFrom c s) : CourseFrom c (readByte s) := by
  rw [readByte_eq]
  have shifted := (h.beforeRead s.port.pointer).beside
    (t := shiftOut (readValue (Machine.beforeRead s.port.pointer s) s.port.pointer) _) rfl
  unfold afterRead
  split
  · exact shifted.popResult
  · exact shifted.beside rfl
  · exact shifted

theorem readBytes (n : Nat) (h : CourseFrom c s) : CourseFrom c (readBytes n s) := by
  induction n generalizing s with
  | zero => exact h
  | succ n ih => exact ih h.readByte

theorem readRow (a : Addr) (h : CourseFrom c s) : CourseFrom c (readRow a s) := guarded_keeps h (h.readBytes _)

theorem csRises (reads : Nat) (h : CourseFrom c s) : CourseFrom c (csRises reads s) := by
  unfold Machine.csRises
  dsimp only
  split
  · split
    · exact (h.readBytes reads).beside rfl
    · exact h.beside rfl
  · exact h

end CourseFrom

end Sys2Proof.Machine
end

section
/-! SUPPORT. The course through triggers, clocks, commands, registers and resets, up to every step. -/

namespace Sys2Proof.Machine

/-- A start command goes on in IDLE, with an active bank of at least one entry (R70). -/
theorem startRefusal_none {s : State} (h : startRefusal s = none) :
    s.ctl.state = .idle ∧ s.list.activeBank.length ≠ 0 := by
  unfold startRefusal at h
  split at h
  · cases h
  · next idle =>
    split at h
    · cases h
    · next filled => exact ⟨not_not.1 idle, filled⟩

/-- What the next LF period boundary is to the timer (R174, R176). -/
theorem lfBoundary_cases (t : TimeBase) :
    t.lfBoundary = .ignored ∨
    t.timerRunning = true ∧
      (t.lfBoundary = .counted ∧ t.prescaler + 1 < Config.unitPeriods ∨
       t.lfBoundary = .unitEnd ∧ 1 < t.timerRemaining ∨ t.lfBoundary = .expiry) := by
  unfold TimeBase.lfBoundary
  split
  · exact .inl rfl
  · next running =>
    refine .inr ⟨by simpa using running, ?_⟩
    split
    · next within => exact .inl ⟨rfl, within⟩
    · split
      · next more => exact .inr (.inl ⟨rfl, more⟩)
      · exact .inr (.inr rfl)

/-- A row that keeps a law where its condition holds keeps it, for elsewhere nothing happens (log 3). -/
theorem row_keeps {P : State → Prop} {p : Prop} [Decidable p] {s t : State} (h : P s) (ht : p → P t) :
    P (if p then t else s) := by
  split
  · next holds => exact ht holds
  · exact h

variable {c : Course} {s t : State}

/-! ### Stimuli -/

theorem CourseStepFrom.beside (h : CourseStepFrom c s) (e : t.course = s.course) : CourseStepFrom c t := by
  obtain ⟨d, first, moves⟩ := h
  exact ⟨d, first, moves.beside e⟩

namespace CourseFrom

/-- A trigger is taken: by an attempt in ARMED, latched in a scan or a hold (R90, R91). -/
theorem takeTrigger {timer : ScanTimer} (loads : timer = c.timer ∨ timer = c.timer.loaded)
    (e : s.course = { c with timer := timer }) (h : CourseFrom c s) : CourseStepFrom c (takeTrigger s) := by
  have state : c.state = s.ctl.state := (congrArg Course.state e).symm
  have latch : s.ctl.state ≠ .idle →
      CourseStepFrom c (if s.ctl.pendingTrigger then overrun s
        else { s with ctl := { s.ctl with pendingTrigger := true } }) := by
    intro busy
    split
    · exact step (h.beside rfl)
    · have latched : State.course { s with ctl := { s.ctl with pendingTrigger := true } } =
          { c with timer := timer, triggered := true } := by
        show { s.course with triggered := true } = _
        rw [e]
      refine ⟨_, .inr (.latched loads (state ▸ busy)), ?_⟩
      rw [CourseFrom, latched]
  unfold Machine.takeTrigger
  split
  · exact h.step
  · next armed =>
    exact ⟨_, .inr (.fires loads (state.trans armed) (e ▸ startAttempt_course s)), attempted .refl⟩
  all_goals next holds => exact latch (by simp [holds])

/-- The timer expires (R176). -/
theorem timerExpires (running : s.time.timerRunning = true) : CourseStepFrom s.course (timerExpires s) := by
  have reloads : State.course { s with time := { s.time with
      prescaler := 0, timerRemaining := s.time.scanInterval.toNat } } =
      { s.course with timer := s.course.timer.loaded } := by
    simp [State.course, TimeBase.timer, ScanTimer.loaded, running]
  have reloaded : CourseFrom s.course { s with time := { s.time with
      prescaler := 0, timerRemaining := s.time.scanInterval.toNat } } :=
    moved .refl (reloads ▸ .reloaded running)
  unfold Machine.timerExpires deliverExpiry
  split
  · exact reloaded.takeTrigger (.inr rfl) reloads
  · exact reloaded.step

/-- The next LF period boundary, whatever it does (R174, R176). -/
theorem takeLfBoundary : CourseStepFrom s.course (takeLfBoundary s.time.lfBoundary s) := by
  have start : CourseFrom s.course s := .refl
  rcases lfBoundary_cases s.time with e | ⟨running, ⟨e, within⟩ | ⟨e, more⟩ | e⟩ <;> rw [e]
  · exact start.step
  · exact step (start.moved (.ticked running within))
  · exact step (start.moved (.unitEnded running more))
  · exact timerExpires running

theorem lfRow (k : LfBoundary) : CourseStepFrom s.course (lfRow k s) :=
  row_keeps (step .refl) fun next => next ▸ takeLfBoundary

theorem unitRow : CourseStepFrom s.course (unitRow s) := by
  unfold Machine.unitRow
  split <;> exact lfRow _

theorem trigChanges (high : Bool) : CourseStepFrom s.course (trigChanges high s) := by
  unfold Machine.trigChanges deliverEdge
  dsimp only
  split
  · exact step .refl
  · split
    · exact step .refl
    · split
      · exact takeTrigger (.inl rfl) rfl .refl
      · exact step .refl

/-! ### Commands -/

theorem startSingle : CourseStepFrom s.course (startSingle s).state := by
  unfold Machine.startSingle
  split
  · exact step .refl
  · next accepted =>
    obtain ⟨idle, filled⟩ := startRefusal_none accepted
    split
    · exact step .refl
    · exact ⟨_, .inr (.commanded (.inl rfl) idle filled (startAttempt_course (s.runBegun .single 1))),
        attempted .refl⟩

theorem startTimed : CourseStepFrom s.course (startTimed s).state := by
  unfold Machine.startTimed
  split
  · exact step .refl
  · next accepted =>
    obtain ⟨idle, filled⟩ := startRefusal_none accepted
    exact ⟨_, .inr (.commanded (.inr rfl) idle filled (startAttempt_course
      { s.runBegun .timed s.ctl.scanCount.toNat with time := s.time.startTimer })), attempted .refl⟩

theorem armTrigger : CourseStepFrom s.course (armTrigger s).state := by
  unfold Machine.armTrigger
  split
  · exact step .refl
  · next accepted =>
    obtain ⟨idle, filled⟩ := startRefusal_none accepted
    exact ⟨_, .inr (.armed idle filled), .refl⟩

theorem stopRun (h : CourseFrom c s) : CourseFrom c (stopRun s).state := by
  unfold Machine.stopRun
  split
  · exact h
  iterate 2 exact h.moved (.rested _)
  all_goals exact h.beside rfl

theorem abortRun (h : CourseFrom c s) : CourseFrom c (abortRun s).state := by
  have cutOff : CourseFrom c (cutOffScan s) := by
    unfold cutOffScan
    dsimp only
    split <;> exact h.beside rfl
  have closed : CourseFrom c (closeScan .aborted (cutOffScan s)) := cutOff.beside (closeScan_course _ _)
  unfold Machine.abortRun
  split
  · exact h
  iterate 2 exact h.moved (.rested _)
  all_goals exact arbitrate (closed.moved (.rested _))

theorem setLength (h : CourseFrom c s) : CourseFrom c (setLength s).state := by
  cases pending : s.list.pendingFlag
  · rw [setLength_clear pending]
    exact withArgs_keeps h fun _ => h.moved (.edited _ pending)
  · rw [setLength_pending pending]
    exact h

theorem writeEntry (h : CourseFrom c s) : CourseFrom c (writeEntry s).state := by
  cases pending : s.list.pendingFlag
  · rw [writeEntry_clear pending]
    exact withArgs_keeps h fun _ => h.moved (.edited _ pending)
  · rw [writeEntry_pending pending]
    exact h

theorem commit (h : CourseFrom c s) : CourseFrom c (commit s).state := by
  by_cases filled : s.list.editBank.length = 0
  · rw [commit_empty filled]
    exact h
  · cases pending : s.list.pendingFlag
    · rw [commit_taken filled pending]
      split
      · next idle => exact h.moved (.swapped true idle)
      · next busy => exact h.moved (.committed busy filled)
    · rw [commit_pending filled pending]
      exact h

theorem swap (h : CourseFrom c s) : CourseFrom c (if s.ctl.state = .idle then claimSwap s else s) :=
  row_keeps h fun idle => h.moved (.swapped s.list.pendingFlag idle)

theorem engineReset (h : CourseFrom c s) : CourseFrom c (engineReset s) := h.moved (.engineReset _)

theorem spotCommand (h : CourseFrom c s) : CourseFrom c (spotCommand s).state := by
  unfold Machine.spotCommand
  split
  · exact h
  · refine withArgs_keeps h fun q => ?_
    split
    · exact arbitrate (h.beside rfl)
    · exact h

theorem cancelSpot (h : CourseFrom c s) : CourseFrom c (cancelSpot s).state := by
  unfold Machine.cancelSpot
  split
  · exact h
  · exact arbitrate (h.beside rfl)
  · refine arbitrate ?_
    unfold stopSpot
    split <;> exact h.beside rfl

theorem setClock (h : CourseFrom c s) : CourseFrom c (setClock s).state := by
  unfold Machine.setClock
  split
  · exact h
  · exact withArgs_keeps h fun _ => h.beside rfl

theorem runCommand (x : Command) : CourseStepFrom s.course (runCommand x s).state := by
  have start : CourseFrom s.course s := .refl
  cases x with
  | startSingle => exact startSingle
  | startTimed => exact startTimed
  | armTrigger => exact armTrigger
  | stop => exact start.stopRun.step
  | abort => exact start.abortRun.step
  | resetEngine => exact start.engineReset.step
  | setLength => exact start.setLength.step
  | writeEntry => exact start.writeEntry.step
  | commit => exact start.commit.step
  | spot => exact start.spotCommand.step
  | cancelSpot => exact start.cancelSpot.step
  | setClock => exact start.setClock.step
  | flushFifo => exact step (roomReport (start.beside rfl))
  | invalidateCache => exact step (start.beside rfl)
  | writeChannel | writeReference | writeSlot | preloadWindow | readEntry | readChannel | readReference | readCache |
      readSlot =>
    exact step (withArgs_keeps start fun _ => start.beside rfl)

/-! ### Register writes -/

theorem takeCode (v : Byte) : CourseStepFrom s.course (takeCode v s) := by
  unfold Machine.takeCode
  split
  · next x _ => exact (runCommand x).beside rfl
  · exact step .refl

theorem completeScanInterval (v : Byte) (h : CourseFrom c s) : CourseFrom c (completeScanInterval v s) := by
  refine h.moved (.intervalSet _ ?_)
  unfold Machine.completeScanInterval setScanInterval
  dsimp only
  split
  · decide
  · assumption

theorem stage (which : StagedByte) (v : Byte) (h : CourseFrom c s) : CourseFrom c (stage which v s) := by
  cases which <;> exact h.beside rfl

theorem writeParam (a : Addr) (v : Byte) (h : CourseFrom c s) : CourseFrom c (writeParam a v s) := by
  unfold Machine.writeParam
  split <;> exact h.beside rfl

theorem writeValue (a : Addr) (v : Byte) : CourseStepFrom s.course (writeValue a v s) := by
  have start : CourseFrom s.course s := .refl
  unfold Machine.writeValue
  split
  · exact takeCode v
  iterate 5 exact step (start.beside rfl)
  · exact (start.completeScanInterval v).step
  iterate 6 exact step (start.beside rfl)
  · exact (start.writeParam a v).step

/-- A write row takes its byte, or nothing happens (log 3). -/
theorem writeRow (a : Addr) {f : State → State} (h : CourseStepFrom s.course (f s)) :
    CourseStepFrom s.course (writeRow a f s) :=
  guarded_keeps (step .refl) (h.beside (t := advance (f s)) rfl)

theorem commandRow (x : Command) : CourseStepFrom s.course (commandRow x (Machine.runCommand x) s) :=
  writeRow _ ((runCommand x).beside rfl)

theorem accessRow (a : Addr) (x : Access) : CourseStepFrom s.course (accessRow a x s) := by
  cases x with
  | read => exact step (readRow a .refl)
  | write v => exact writeRow a (writeValue a v)

/-! ### Pins and resets -/

theorem csFalls (h : CourseFrom c s) : CourseFrom c (csFalls s) := by
  unfold Machine.csFalls
  dsimp only
  split
  · exact h
  · split <;> exact h.beside rfl

theorem hardReset (h : CourseFrom c s) (u : State) : CourseFrom c (hardResetValues u) := h.moved (.hardReset _)

theorem rstRises (h : CourseFrom c s) : CourseFrom c (rstRises s) := by
  unfold Machine.rstRises
  dsimp only
  split
  · split <;> exact h.beside rfl
  · exact h

theorem supplyCrosses (above : Bool) (h : CourseFrom c s) : CourseFrom c (supplyCrosses above s) := by
  unfold Machine.supplyCrosses
  dsimp only
  split
  · exact h
  · split
    · split <;> exact h.beside rfl
    · exact h.hardReset _

/-! ### Every command -/

/-- No command does anything to the course but by a stimulus and the moves. -/
theorem exec (i : Instr) : ∃ t, exec i s = .next t ∧ CourseStepFrom s.course t := by
  have start : CourseFrom s.course s := .refl
  cases i
  case startSingle | startTimed | armTrigger | stop | abort | resetEngine | setLength | writeEntry | readEntry |
      commit | writeChannel | readChannel | writeReference | readReference | preloadWindow | readCache |
      invalidateCache | spot | cancelSpot | flushFifo | writeSlot | readSlot | setClock =>
    exact ⟨_, rfl, commandRow _⟩
  case unknownCommand code => exact ⟨_, rfl, writeRow _ (takeCode code)⟩
  case frameStart => exact ⟨_, rfl, start.csFalls.step⟩
  case addressByte b => exact ⟨_, rfl, step (guarded_keeps start (start.beside rfl))⟩
  case frameEnd reads => exact ⟨_, rfl, (start.csRises reads).step⟩
  case resultByte0Read | resultByte15Read | eventByte0Read | eventByte7Read | spotByte0Read | snapshotLowByteRead =>
    exact ⟨_, rfl, (start.readRow _).step⟩
  case stagingByteWrite which v => exact ⟨_, rfl, writeRow _ (start.stage which v).step⟩
  case scanIntervalWrite v => exact ⟨_, rfl, writeRow _ (start.completeScanInterval v).step⟩
  case scanCountWrite | windowMaxWrite | scanCtrlWrite | fifoThresholdWrite | cacheMaxAgeWrite | attnFlagsWrite |
      attnEnableWrite =>
    exact ⟨_, rfl, writeRow _ (step (start.beside rfl))⟩
  case registerWrite a x => exact ⟨_, rfl, accessRow a x⟩
  case hardReset => exact ⟨_, rfl, (start.hardReset _).step⟩
  case resetRelease => exact ⟨_, rfl, start.rstRises.step⟩
  case powerOnReset above => exact ⟨_, rfl, (start.supplyCrosses above).step⟩
  case trigEdge high => exact ⟨_, rfl, trigChanges high⟩
  case scanTimerUnit => exact ⟨_, rfl, unitRow⟩
  case scanTimerExpiry => exact ⟨_, rfl, lfRow _⟩
  case lfPeriodBoundary => exact ⟨_, rfl, takeLfBoundary⟩
  case grant => exact ⟨_, rfl, start.arbitrate.step⟩
  case refSettleExpiry | refTimeout | snsSettleExpiry | firstHalfEnd | windowEnd =>
    exact ⟨_, rfl, step (guarded_keeps start (start.takeBoundary _))⟩
  case openingEdge | referenceComplete | sensorOverrange =>
    exact ⟨_, rfl, step (guarded_keeps start (start.takeEdge _))⟩
  case periodBoundary => exact ⟨_, rfl, (start.takeBoundary _).step⟩
  case oscillatorEdge => exact ⟨_, rfl, (start.takeEdge _).step⟩
  case heldStartRetry => exact ⟨_, rfl, step (row_keeps start fun ⟨held, _⟩ => start.attemptStart (.inl held))⟩
  case heldRecordReoffer => exact ⟨_, rfl, step (row_keeps start start.reofferRecord)⟩
  case pendingTriggerStart => exact ⟨_, rfl, step (row_keeps start fun latched => start.attemptStart (.inr latched))⟩
  case swap => exact ⟨_, rfl, start.swap.step⟩

end CourseFrom

/-- A step does nothing to the course but by a stimulus and the moves. -/
theorem step_course (run : step s = .next t) : CourseStepFrom s.course t := by
  unfold step at run
  split at run
  · cases run
    exact CourseFrom.step .refl
  · next i rest _ =>
    obtain ⟨u, run', moves⟩ := CourseFrom.exec (s := { s with pending := rest }) i
    cases run'.symm.trans run
    exact moves

end Sys2Proof.Machine
end

section
/-! SUPPORT. The laws of the scan list, of IDLE and of the active bank within a scan, each carried through the moves of
the course (R53, R59, R62, R64, R174 to R178). -/

namespace Sys2Proof.Machine

variable {c d : Course} {s t : State}

/-- A law of the course that every stimulus and every move keeps is kept by a step. -/
theorem CourseStepFrom.keeps {P : Course → Prop} (h : CourseStepFrom c s) (law : P c)
    (stimulus : ∀ d, Stimulus c d → P d) (move : ∀ {d e}, CourseMove d e → P d → P e) : P s.course := by
  obtain ⟨d, first, moves⟩ := h
  have begun : P d := first.elim (fun same => same ▸ law) (stimulus d)
  unfold CourseFrom at moves
  generalize s.course = e at moves ⊢
  induction moves with
  | refl => exact begun
  | tail _ m ih => exact move m ih

/-! ### Banks -/

namespace ScanList

variable {l : ScanList}

/-- An edit leaves the active bank (R54, R55). -/
theorem withEditBank_activeBank (b : Bank) : (l.withEditBank b).activeBank = l.activeBank := by
  unfold withEditBank activeBank
  cases l.active <;> simp

theorem withEditBank_pendingFlag (b : Bank) : (l.withEditBank b).pendingFlag = l.pendingFlag := by
  unfold withEditBank
  split <;> rfl

/-- After a claim the active bank has an entry, where it had one and a commit waits only with one (R59, R61). -/
theorem claimSwap_filled (filled : l.activeBank.length ≠ 0) (edit : l.pendingFlag = true → l.editBank.length ≠ 0) :
    l.claimSwap.activeBank.length ≠ 0 := by
  cases pending : l.pendingFlag
  · rwa [claimSwap_clear pending]
  · obtain ⟨-, bankA, bankB⟩ := claimSwap_committed pending
    have installed : l.claimSwap.activeBank = l.editBank := by
      rw [activeBank]
      split <;> assumption
    rw [installed]
    exact edit pending

end ScanList

/-! ### The scan list -/

/-- The controller is in a scan (R76, R118). -/
abbrev Course.InScan (c : Course) : Prop := c.state = .scanning ∨ c.state = .holdRecord

/-- The law of the list, of the course alone (R53, R59, R64). -/
structure Course.ListLaw (c : Course) : Prop where
  filled : c.state ≠ .idle → c.list.activeBank.length ≠ 0
  inside : c.InScan → c.entryIndex.val < c.list.activeBank.length.val
  edit : c.list.pendingFlag = true → c.list.editBank.length ≠ 0

theorem listLaw_iff (s : State) : ListLaw s ↔ s.course.ListLaw :=
  ⟨fun ⟨filled, inside, edit⟩ => ⟨filled, inside, edit⟩, fun ⟨filled, inside, edit⟩ => ⟨filled, inside, edit⟩⟩

namespace Course.ListLaw

/-- In IDLE with no commit waiting the law says nothing. -/
theorem of_idle (idle : c.state = .idle) (clear : c.list.pendingFlag = false) : c.ListLaw where
  filled busy := absurd idle busy
  inside scan := by rcases scan with h | h <;> cases idle.symm.trans h
  edit pending := by cases clear.symm.trans pending

/-- An attempt takes entry 0 of an active bank that is not empty (R74, R76). -/
theorem attempt (filled : c.list.activeBank.length ≠ 0)
    (edit : c.list.pendingFlag = true → c.list.editBank.length ≠ 0) (a : c.Attempt d) : d.ListLaw := by
  have claimed := ScanList.claimSwap_filled filled edit
  have clear : c.list.claimSwap.pendingFlag = true → c.list.claimSwap.editBank.length ≠ 0 := by simp
  cases a with
  | started => exact ⟨fun _ => claimed, fun _ => Nat.pos_of_ne_zero fun zero => claimed (Fin.ext zero), clear⟩
  | skipped | held => exact ⟨fun _ => claimed, nofun, clear⟩

theorem stimulus (law : c.ListLaw) (m : Stimulus c d) : d.ListLaw := by
  cases m with
  | @fires t _ _ armed a => exact attempt (c := { c with timer := t }) (law.filled (by simp [armed])) law.edit a
  | latched => exact ⟨law.filled, law.inside, law.edit⟩
  | @commanded t _ _ _ filled a => exact attempt (c := { c with timer := t }) filled law.edit a
  | armed _ filled => exact ⟨fun _ => filled, nofun, law.edit⟩

theorem move (m : CourseMove c d) (law : c.ListLaw) : d.ListLaw := by
  cases m with
  | advanced inside => exact ⟨law.filled, fun _ => inside, law.edit⟩
  | recordHeld scanning =>
    exact ⟨fun _ => law.filled (by simp [scanning]), fun _ => law.inside (.inl scanning), law.edit⟩
  | recordTaken held => exact ⟨fun _ => law.filled (by simp [held]), fun _ => law.inside (.inr held), law.edit⟩
  | rested | engineReset => exact of_idle rfl ScanList.claimSwap_pendingFlag
  | swapped _ idle => exact of_idle idle ScanList.claimSwap_pendingFlag
  | hardReset => exact of_idle rfl rfl
  | armed scanning => exact ⟨fun _ => law.filled (by simp [scanning]), nofun, law.edit⟩
  | attempted waits a => exact attempt (law.filled (by rcases waits with h | ⟨h, -⟩ <;> simp [h])) law.edit a
  | edited b clear =>
    have stands := ScanList.withEditBank_activeBank (l := c.list) b
    refine ⟨fun busy => ?_, fun scan => ?_, fun pending => ?_⟩
    · exact stands ▸ law.filled busy
    · exact stands ▸ law.inside scan
    · cases clear.symm.trans ((ScanList.withEditBank_pendingFlag b).symm.trans pending)
  | committed _ filled => exact ⟨law.filled, law.inside, fun _ => filled⟩
  | ticked | unitEnded | reloaded | intervalSet => exact ⟨law.filled, law.inside, law.edit⟩

end Course.ListLaw

/-! ### The active bank within a scan -/

/-- What becomes, within a step, of a scan with the given sequence number and active bank: it goes on, it ends in ARMED
or HOLD(START), the next scan follows and takes up the one trigger that was latched, or the controller is IDLE. -/
inductive Course.ScanFate (seq : BitVec 16) (bank : Bank) (c : Course) : Prop where
  | goesOn (inScan : c.InScan) (same : c.seq = seq) (stands : c.list.activeBank = bank)
  | waits (outside : c.state = .armed ∨ c.state = .holdStart) (same : c.seq = seq)
  | followed (next : c.seq = seq + 1) (unheld : c.state ≠ .holdStart) (untriggered : c.triggered = false)
  | rests (idle : c.state = .idle)

namespace Course.ScanFate

variable {seq : BitVec 16} {bank : Bank}

/-- A move of the timer, of the edit bank or within the scan. -/
theorem of_same (fate : c.ScanFate seq bank) (state : d.state = c.state) (seqs : d.seq = c.seq)
    (triggered : d.triggered = c.triggered) (list : d.list.activeBank = c.list.activeBank) : d.ScanFate seq bank := by
  cases fate with
  | goesOn inScan same stands => exact .goesOn (by rwa [InScan, state]) (seqs.trans same) (list.trans stands)
  | waits outside same => exact .waits (by rwa [state]) (seqs.trans same)
  | followed next unheld untriggered => exact .followed (seqs.trans next) (by rwa [state]) (triggered.trans untriggered)
  | rests idle => exact .rests (state.trans idle)

/-- A move from one state of a scan to another, or to ARMED at its end. -/
theorem of_inScan (fate : c.ScanFate seq bank) (inScan : c.InScan) {e : EngineState}
    (after : e = .scanning ∨ e = .holdRecord ∨ e = .armed) : { c with state := e }.ScanFate seq bank := by
  cases fate with
  | goesOn _ same stands =>
    rcases after with rfl | rfl | rfl
    · exact .goesOn (.inl rfl) same stands
    · exact .goesOn (.inr rfl) same stands
    · exact .waits (.inl rfl) same
  | followed next _ untriggered =>
    exact .followed next (by rcases after with rfl | rfl | rfl <;> exact nofun) untriggered
  | waits outside => rcases inScan with h | h <;> rw [h] at outside <;> simp at outside
  | rests idle => rcases inScan with h | h <;> cases h.symm.trans idle

/-- An attempt that waits is made once: the scan it starts takes up the trigger (R76). -/
theorem of_attempt (fate : c.ScanFate seq bank) (waits : c.state = .holdStart ∨ c.state = .armed ∧ c.triggered = true)
    (a : c.Attempt d) : d.ScanFate seq bank := by
  have same : c.seq = seq := by
    cases fate with
    | waits _ same | goesOn _ same => exact same
    | followed _ unheld untriggered =>
      rcases waits with h | ⟨-, h⟩
      · exact absurd h unheld
      · cases untriggered.symm.trans h
    | rests idle => rcases waits with h | ⟨h, -⟩ <;> cases idle.symm.trans h
  cases a with
  | started => exact .followed (congrArg (· + 1) same) nofun rfl
  | skipped => exact .waits (.inl rfl) same
  | held => exact .waits (.inr rfl) same

theorem move (m : CourseMove c d) (fate : c.ScanFate seq bank) : d.ScanFate seq bank := by
  cases m with
  | recordHeld scanning => exact fate.of_inScan (.inl scanning) (.inr (.inl rfl))
  | recordTaken held => exact fate.of_inScan (.inr held) (.inl rfl)
  | armed scanning => exact fate.of_inScan (.inl scanning) (.inr (.inr rfl))
  | attempted waits a => exact fate.of_attempt waits a
  | rested | engineReset | hardReset => exact .rests rfl
  | swapped _ idle => exact .rests idle
  | edited b => exact fate.of_same rfl rfl rfl (ScanList.withEditBank_activeBank b)
  | advanced | committed | ticked | unitEnded | reloaded | intervalSet => exact fate.of_same rfl rfl rfl rfl

/-- A stimulus that reaches a scan in progress is latched (R90). -/
theorem stimulus (inScan : c.InScan) (m : Stimulus c d) : d.ScanFate c.seq c.list.activeBank := by
  cases m with
  | latched => exact .goesOn inScan rfl rfl
  | fires _ armed => rcases inScan with h | h <;> cases h.symm.trans armed
  | commanded _ idle | armed idle => rcases inScan with h | h <;> cases h.symm.trans idle

/-- In a scan of the same sequence number the active bank stands. -/
theorem activeBank (fate : c.ScanFate seq bank) (inScan : c.InScan) (same : c.seq = seq) :
    c.list.activeBank = bank := by
  cases fate with
  | goesOn _ _ stands => exact stands
  | waits outside => rcases inScan with h | h <;> rw [h] at outside <;> simp at outside
  | followed next => exact absurd (same.symm.trans next) (by bv_omega)
  | rests idle => rcases inScan with h | h <;> cases h.symm.trans idle

end Course.ScanFate

/-- Settles O51: through the course of a step, the fate of the scan in progress, and the law of the list move by
move. -/
theorem activeBankStandsDuringAScan : Obligations.ActiveBankStandsDuringAScan := by
  refine ⟨fun s t scan run scan' seq => ?_, fun s t law run => ?_⟩
  · have fate : t.course.ScanFate s.ctl.seq s.list.activeBank :=
      (step_course run).keeps (.goesOn scan rfl rfl) (fun _ => .stimulus scan) .move
    exact fate.activeBank scan' seq
  · have law := (listLaw_iff s).1 law
    exact (listLaw_iff t).2 ((step_course run).keeps law (fun _ => law.stimulus) .move)

/-! ### IDLE -/

/-- The law of the timer alone (R174 to R177). -/
structure ScanTimer.Law (t : ScanTimer) : Prop where
  stopped : t.running = false → t.remaining = 0 ∧ t.prescaler = 0
  running : t.running = true → 1 ≤ t.remaining
  interval : t.interval ≠ 0
  prescaler : t.prescaler < Config.unitPeriods

/-- The timer loaded from SCAN_INTERVAL, which is not 0 (R175 to R177). -/
theorem ScanTimer.Law.loaded {t : ScanTimer} (law : t.Law) : t.loaded.Law where
  stopped := nofun
  running _ := Nat.pos_of_ne_zero fun zero => law.interval (BitVec.eq_of_toNat_eq zero)
  interval := law.interval
  prescaler := Nat.zero_lt_succ _

theorem ScanTimer.Law.atRest {t : ScanTimer} (law : t.Law) : t.stopped.Law where
  stopped _ := ⟨rfl, rfl⟩
  running := nofun
  interval := law.interval
  prescaler := Nat.zero_lt_succ _

/-- In IDLE no commit waits and the timer is stopped (R62, R178), and the timer keeps its law. -/
structure Course.IdleLaw (c : Course) : Prop where
  idle : c.state = .idle → c.list.pendingFlag = false ∧ c.timer.running = false
  timer : c.timer.Law

theorem idleLaw_iff (s : State) : NoCommitWaitsInIdle s ∧ TimerLaw s ↔ s.course.IdleLaw := by
  constructor
  · rintro ⟨clear, rests, stopped, running, interval, prescaler⟩
    exact ⟨fun idle => ⟨clear idle, rests idle⟩, stopped, running, interval, prescaler⟩
  · rintro ⟨idle, stopped, running, interval, prescaler⟩
    exact ⟨fun h => (idle h).1, fun h => (idle h).2, stopped, running, interval, prescaler⟩

namespace Course.IdleLaw

/-- The timer as it was or loaded keeps its law. -/
theorem loads (law : c.IdleLaw) {t : ScanTimer} (timer : t = c.timer ∨ t = c.timer.loaded) : t.Law := by
  rcases timer with rfl | rfl
  · exact law.timer
  · exact law.timer.loaded

/-- An attempt leaves IDLE, and the timer as it was (R74 to R76). -/
theorem attempt (timer : c.timer.Law) (a : c.Attempt d) : d.IdleLaw := by
  cases a <;> exact ⟨nofun, timer⟩

theorem stimulus (law : c.IdleLaw) (m : Stimulus c d) : d.IdleLaw := by
  cases m with
  | fires timer _ a | commanded timer _ _ a => exact attempt (law.loads timer) a
  | latched timer busy => exact ⟨fun idle => absurd idle busy, law.loads timer⟩
  | armed => exact ⟨nofun, law.timer⟩

theorem move (m : CourseMove c d) (law : c.IdleLaw) : d.IdleLaw := by
  cases m with
  | advanced => exact ⟨law.idle, law.timer⟩
  | recordHeld | recordTaken | armed => exact ⟨nofun, law.timer⟩
  | attempted _ a => exact attempt law.timer a
  | rested | engineReset => exact ⟨fun _ => ⟨ScanList.claimSwap_pendingFlag, rfl⟩, law.timer.atRest⟩
  | swapped _ idle => exact ⟨fun _ => ⟨ScanList.claimSwap_pendingFlag, (law.idle idle).2⟩, law.timer⟩
  | edited b clear =>
    exact ⟨fun idle => ⟨(ScanList.withEditBank_pendingFlag b).trans clear, (law.idle idle).2⟩, law.timer⟩
  | committed busy => exact ⟨fun idle => absurd idle busy, law.timer⟩
  | ticked running within =>
    exact ⟨law.idle, fun off => (by cases running.symm.trans off), law.timer.running, law.timer.interval, within⟩
  | unitEnded running more =>
    exact ⟨law.idle, fun off => (by cases running.symm.trans off), fun _ => Nat.le_sub_of_add_le more,
      law.timer.interval, Nat.zero_lt_succ _⟩
  | reloaded running =>
    refine ⟨fun idle => ?_, law.timer.loaded⟩
    cases running.symm.trans (law.idle idle).2
  | intervalSet v nonzero =>
    exact ⟨law.idle, law.timer.stopped, law.timer.running, nonzero, law.timer.prescaler⟩
  | hardReset => exact ⟨fun _ => ⟨rfl, rfl⟩, fun _ => ⟨rfl, rfl⟩, nofun, by decide, by decide⟩

end Course.IdleLaw

/-- Settles O56: the laws of IDLE through the course of a step, the law of the frame through every command. -/
theorem stepKeepsIdleLaws : Obligations.StepKeepsIdleLaws := by
  refine ⟨fun s t clear timer run => ?_, fun s t law run => step_frameLaw law run⟩
  have law := (idleLaw_iff s).1 ⟨clear, timer⟩
  exact (idleLaw_iff t).2 ((step_course run).keeps law (fun _ => law.stimulus) .move)

end Sys2Proof.Machine
end

section
/-! SUPPORT. The standing of the scan controller, the spot port, the arbiter and the unit towards one another (04, 05):
who waits, who is served, and how far the scan has come. The walk and the arbiter's decision, said once in these terms,
constructor by constructor. -/

namespace Sys2Proof.Machine

/-! ### One entry of the walk -/

/-- An entry with an enabled channel is requested, and the walk waits (R78). -/
theorem reachOn_enabled {s : State} (enabled : s.channels[s.entryInHand.channel].enabled = true) :
    reachOn s = s.entryRequested := by
  rw [reachOn_eq]
  rcases reachEntry_cases s with ⟨-, e⟩ | ⟨disabled, -⟩
  · rw [e]
    rfl
  · cases enabled.symm.trans disabled

/-- An entry with a disabled channel is recorded at once (R78, R80). -/
theorem reachOn_disabled {s : State} (disabled : s.channels[s.entryInHand.channel].enabled = false) :
    reachOn s = s.recordOffered s.disabledRecord := by
  rw [reachOn_eq]
  rcases reachEntry_cases s with ⟨enabled, -⟩ | ⟨-, e⟩
  · cases enabled.symm.trans disabled
  · rw [e, handleRecord_eq, offerAndFlag_disabled rfl]
    rfl

/-- The FIFO has a place beyond the reserved one (R119). -/
theorem hasPlace_iff (f : ResultFifo) : f.hasPlace = true ↔ f.records.length + f.reserved.toNat ≤ 31 := by
  rw [ResultFifo.hasPlace, decide_eq_true_eq, ResultFifo.taken, ResultFifo.count, Config.fifoCapacity]
  omega

/-- A held record that finds a place is appended, and the walk goes on in SCANNING (R83). -/
theorem reofferRecord_placed {s : State} {r : MeasRecord} (held : s.ctl.held = some r)
    (place : s.fifo.records.length + s.fifo.reserved.toNat ≤ 31) :
    reofferRecord s = arbitrate ((({ s with ctl := { s.ctl with state := .scanning, held := none } }.appended
      (.measurement r)).counted r false).walkedOn r) := by
  unfold reofferRecord
  rw [held]
  dsimp only
  rw [if_pos ((hasPlace_iff _).2 place), afterRecord_eq, tally_eq, appendRecord_eq]
  rfl

/-- Without one it stays held (R83). -/
theorem reofferRecord_unplaced {s : State} (full : 31 < s.fifo.records.length + s.fifo.reserved.toNat) :
    reofferRecord s = s := by
  unfold reofferRecord
  split
  · rfl
  · exact if_neg fun place => absurd ((hasPlace_iff _).1 place) (Nat.not_le.2 full)

/-! ### The standing -/

/-- Who waits for the unit and who is served, the controller's state and flags, and the tallies of the scan. -/
structure Standing where
  unitIdle : Bool
  owner : Option Requester
  holder : Option Requester
  scanAsks : Bool
  spotAsks : Bool
  spot : SpotState
  state : EngineState
  entryIndex : Nat
  stopRequested : Bool
  triggered : Bool
  grantOutstanding : Bool
  holdsRecord : Bool
  measured : Nat
  faults : Nat
  discarded : Nat

/-- The standing of the part. -/
def State.standing (s : State) : Standing :=
  { unitIdle := decide (s.conv.phase = .idle), owner := s.conv.owner, holder := s.arb.holder,
    scanAsks := s.arb.scanReq.isSome, spotAsks := s.arb.spotReq.isSome, spot := s.spot.state, state := s.ctl.state,
    entryIndex := s.ctl.entryIndex, stopRequested := s.ctl.stopRequested, triggered := s.ctl.pendingTrigger,
    grantOutstanding := s.ctl.grantOutstanding, holdsRecord := s.ctl.held.isSome, measured := s.ctl.measured,
    faults := s.ctl.faults, discarded := s.ctl.discarded }

namespace Standing

/-- A scan is in progress (R76, R118). -/
abbrev InScan (a : Standing) : Prop := a.state = .scanning ∨ a.state = .holdRecord

/-- The requester has a request at the arbiter (R98). -/
def asks (a : Standing) : Requester → Bool
  | .scan => a.scanAsks
  | .spot => a.spotAsks

/-- The unit is back in IDLE and free (R4). -/
def parked (a : Standing) : Standing := { a with unitIdle := true, owner := none, holder := none }

/-- The unit serves the requester, whose request is taken (R2, R99). -/
def serving (a : Standing) : Requester → Standing
  | .scan => { a with unitIdle := false, owner := some .scan, holder := some .scan, scanAsks := false,
                      grantOutstanding := false }
  | .spot => { a with unitIdle := false, owner := some .spot, holder := some .spot, spotAsks := false,
                      spot := .running }

/-- The scan's request is placed (R78). -/
def requested (a : Standing) : Standing := { a with scanAsks := true, grantOutstanding := true }

/-- A record is held (R82). -/
def recordHeld (a : Standing) : Standing := { a with state := .holdRecord, holdsRecord := true }

/-- The held record leaves the controller for the FIFO (R83). -/
def recordTaken (a : Standing) : Standing := { a with state := .scanning, holdsRecord := false }

/-- A record is counted, as a fault and as discarded or not (R85). -/
def counted (a : Standing) (fault dropped : Bool) : Standing :=
  { a with measured := a.measured + 1, faults := a.faults + fault.toNat, discarded := a.discarded + dropped.toNat }

/-- The entry into IDLE (R89). -/
def atRest (a : Standing) : Standing := { a with state := .idle, stopRequested := false, triggered := false }

/-- A scan starts (R76). -/
def started (a : Standing) : Standing :=
  { a with state := .scanning, entryIndex := 0, stopRequested := false, triggered := false, grantOutstanding := false,
           holdsRecord := false, measured := 0, faults := 0, discarded := 0 }

/-- A scan is skipped (R75). -/
def skipped (a : Standing) : Standing := { a with state := .armed, triggered := false }

/-- A start is held (R74). -/
def startHeld (a : Standing) : Standing := { a with state := .holdStart, triggered := true }

/-- The scan is cut off: its request withdrawn, the held record dropped, its measurement stopped (R95). -/
def cutOff (a : Standing) : Standing :=
  let b := { a with grantOutstanding := false, holdsRecord := false, scanAsks := false }
  if a.owner = some .scan then b.parked else b

end Standing

/-! ### The walk -/

/-- Where the walk is within a step. -/
inductive Stage where
  /-- An entry is reached (R78). -/
  | reaching
  /-- A record of the entry has been built (R80). -/
  | recording
  /-- The record has been counted (R85). -/
  | moving
  /-- The scan has ended (R88). -/
  | ending
  /-- A start attempt is made (R74). -/
  | attempting

/-- What the walk makes of the standing in the rest of its step, from each stage on (R74 to R89). -/
inductive Walks : Stage → Standing → Standing → Prop where
  | requests {a} : Walks .reaching a a.requested
  | records {a b} (rest : Walks .recording a b) : Walks .reaching a b
  | holds {a} : Walks .recording a a.recordHeld
  | counts {a b} (fault dropped : Bool) (rest : Walks .moving (a.counted fault dropped) b) : Walks .recording a b
  | advances {a b} (rest : Walks .reaching { a with entryIndex := a.entryIndex + 1 } b) : Walks .moving a b
  | ends {a b} (rest : Walks .ending a b) : Walks .moving a b
  | rests {a} : Walks .ending a a.atRest
  | arms {a} (goesOn : a.stopRequested = false) (untriggered : a.triggered = false) :
      Walks .ending a { a with state := .armed }
  | restarts {a b} (goesOn : a.stopRequested = false) (rest : Walks .attempting a b) : Walks .ending a b
  | starts {a b} (rest : Walks .reaching a.started b) : Walks .attempting a b
  | skips {a} : Walks .attempting a a.skipped
  | waits {a} : Walks .attempting a a.startHeld

section
variable (s : State)

@[simp] theorem appended_standing (r : FifoRecord) : (s.appended r).standing = s.standing := rfl

@[simp] theorem counted_standing (r : MeasRecord) (dropped : Bool) :
    (s.counted r dropped).standing = s.standing.counted r.status.isFault dropped := by
  rw [← tally_eq]
  rfl

@[simp] theorem offerAndFlag_standing (r : MeasRecord) : (offerAndFlag r s).standing = s.standing := by
  simp [State.standing]

end

variable {s : State}

/-- A start attempt, where the walk of the scan it starts is accounted for (R74 to R76). -/
theorem attempted_walks_of
    (started : Walks .reaching s.standing.started s.scanStarted.standing) :
    Walks .attempting s.standing s.attempted.standing := by
  unfold State.attempted
  split
  · exact .starts started
  · split
    · exact .skips
    · exact .waits

/-- A scan end, where the attempt of a latched trigger is accounted for (R88, R89). -/
theorem scanEnded_walks_of (t : Termination)
    (restarts : s.ctl.pendingTrigger = true → Walks .attempting s.standing (s.scanClosed t).attempted.standing) :
    Walks .ending s.standing (s.scanEnded t).standing := by
  unfold State.scanEnded
  dsimp only
  split
  · exact .rests
  · next goesOn =>
    have unstopped : s.ctl.stopRequested = false := by simp_all
    split
    · next latched => exact .restarts unstopped (restarts latched)
    · next unlatched => exact .arms unstopped (Bool.eq_false_iff.2 unlatched)

/-! The walk goes through the stages: entry by entry up to a scan end, and once more over a scan that a latched trigger
starts, whose own end finds no trigger. -/

/-- The scan ends of a step whose trigger is pending or not are accounted for. -/
abbrev EndsWalk (latched : Bool) : Prop :=
  ∀ (t : Termination) (u : State), u.ctl.pendingTrigger = latched → Walks .ending u.standing (u.scanEnded t).standing

/-- The entry after the one in hand is accounted for. -/
abbrev NextWalks (s : State) : Prop :=
  ∀ u : State, u.ctl.pendingTrigger = s.ctl.pendingTrigger → u.ctl.entryIndex.val = s.ctl.entryIndex.val + 1 →
    Walks .reaching u.standing (reachOn u).standing

theorem walkedOn_walks_of (ended : EndsWalk s.ctl.pendingTrigger) (next : NextWalks s) (r : MeasRecord) :
    Walks .moving s.standing (s.walkedOn r).standing := by
  unfold State.walkedOn
  split
  · exact .ends (ended _ s rfl)
  · split
    · exact .advances (next { s with ctl := { s.ctl with entryIndex := ⟨s.ctl.entryIndex.val + 1, _⟩ } } rfl rfl)
    · exact .ends (ended _ s rfl)

theorem recordOffered_walks_of (ended : EndsWalk s.ctl.pendingTrigger) (next : NextWalks s) (r : MeasRecord) :
    Walks .recording s.standing (s.recordOffered r).standing := by
  have counted : ∀ (u : State) (dropped : Bool), u.standing = s.standing → u.ctl = s.ctl →
      Walks .recording s.standing ((u.counted r dropped).walkedOn r).standing := by
    intro u dropped standing ctl
    refine .counts r.status.isFault dropped ?_
    rw [← standing, ← counted_standing]
    refine walkedOn_walks_of ?_ (fun v latch index => next v ?_ ?_) r
    · show EndsWalk u.ctl.pendingTrigger
      rwa [ctl]
    · exact latch.trans (congrArg Controller.pendingTrigger ctl :)
    · exact index.trans (congrArg (fun c : Controller => c.entryIndex.val + 1) ctl :)
  unfold State.recordOffered
  split
  · exact counted _ false rfl rfl
  · split
    · exact counted s true rfl rfl
    · exact .holds

theorem reachOn_walks_of {latched : Bool} (ended : EndsWalk latched) (s : State)
    (trigger : s.ctl.pendingTrigger = latched) : Walks .reaching s.standing (reachOn s).standing := by
  obtain ⟨left, bound⟩ : ∃ n, 32 ≤ s.ctl.entryIndex.val + n := ⟨32, Nat.le_add_left _ _⟩
  induction left generalizing s with
  | zero => exact absurd s.ctl.entryIndex.isLt (Nat.not_lt.2 bound)
  | succ n ih =>
    cases enabled : s.channels[s.entryInHand.channel].enabled with
    | true =>
      rw [reachOn_enabled enabled]
      exact .requests
    | false =>
      rw [reachOn_disabled enabled]
      refine .records (recordOffered_walks_of (trigger ▸ ended) (fun u latch index => ?_) _)
      exact ih u (latch.trans trigger) (by omega)

/-- A scan that no trigger waits to follow ends in IDLE or ARMED (R89). -/
theorem endsWalk_unlatched : EndsWalk false := fun t _ unlatched =>
  scanEnded_walks_of t fun latched => by cases unlatched.symm.trans latched

/-- A scan that starts has taken its trigger up (R76). -/
theorem scanStarted_walks (s : State) : Walks .reaching s.standing.started s.scanStarted.standing :=
  reachOn_walks_of endsWalk_unlatched (startScan (claimSwap s)) rfl

/-- The end of a scan goes through the stages, with the start and the walk of the next scan where a trigger is latched
(R88, R89). -/
theorem scanEnded_walks (t : Termination) (s : State) : Walks .ending s.standing (s.scanEnded t).standing :=
  scanEnded_walks_of t fun _ => attempted_walks_of (s := s.scanClosed t) (scanStarted_walks _)

theorem endsWalk (latched : Bool) : EndsWalk latched := fun t u _ => scanEnded_walks t u

theorem reachOn_walks (s : State) : Walks .reaching s.standing (reachOn s).standing :=
  reachOn_walks_of (endsWalk _) s rfl

theorem walkedOn_walks (r : MeasRecord) (s : State) : Walks .moving s.standing (s.walkedOn r).standing :=
  walkedOn_walks_of (endsWalk _) (fun u _ _ => reachOn_walks u) r

theorem recordOffered_walks (r : MeasRecord) (s : State) :
    Walks .recording s.standing (s.recordOffered r).standing :=
  recordOffered_walks_of (endsWalk _) (fun u _ _ => reachOn_walks u) r

/-! ### The arbiter's decision -/

/-- What the owner makes of a result handed to it (R79, R106). -/
inductive Delivers : Requester → Standing → Standing → Prop where
  | spot {a} : Delivers .spot a { a with spot := .none }
  | scan {a b} (scanning : a.state = .scanning) (rest : Walks .recording a b) : Delivers .scan a b
  | dropped {a} (elsewhere : a.state ≠ .scanning) : Delivers .scan a a

/-- What the arbiter's decision makes of the standing: nothing while the unit serves or nobody asks, else a grant, which
on a disabled channel ends at once and is followed by the next decision (R3, R99, R100). -/
inductive Decides : Standing → Standing → Prop where
  | stands {a} (settled : a.holder = none → ∀ who, a.asks who = false) : Decides a a
  | grants {a} (who : Requester) (free : a.holder = none) (asks : a.asks who = true) : Decides a (a.serving who)
  | refuses {a b c} (who : Requester) (free : a.holder = none) (asks : a.asks who = true)
      (ended : Delivers who (a.serving who).parked b) (next : Decides b c) : Decides a c

theorem deliver_delivers (who : Requester) (r : Result) (s : State) :
    Delivers who s.standing (deliver who r s).standing := by
  cases who with
  | spot => exact .spot
  | scan =>
    show Delivers .scan s.standing (takeScanResult r s).standing
    by_cases scanning : s.ctl.state = .scanning
    · rw [takeScanResult_eq r s scanning, ← offerAndFlag_standing s (s.measurement r)]
      refine .scan ?_ (recordOffered_walks _ _)
      rwa [offerAndFlag_standing]
    · rw [takeScanResult, if_neg scanning]
      exact .dropped scanning

/-- Nobody is chosen where nobody asks (R100). -/
theorem choose_none {a : Arbiter} (h : a.choose = none) : a.scanReq = none ∧ a.spotReq = none := by
  unfold Arbiter.choose at h
  split at h
  · next scan spot => exact ⟨scan, spot⟩
  · cases h
  · cases h
  · split at h <;> cases h

/-- A grant leaves the FIFO, and of the controller all but grant outstanding (R99). -/
theorem grantUnit_ctl (who : Requester) (q : Request) (s : State) :
    (∃ g, (grantUnit who q (takeGrant who s)).1.ctl = { s.ctl with grantOutstanding := g }) ∧
    (grantUnit who q (takeGrant who s)).1.fifo = s.fifo := by
  have taken : (∃ g, (takeGrant who s).ctl = { s.ctl with grantOutstanding := g }) ∧
      (takeGrant who s).fifo = s.fifo := by
    cases who
    · exact ⟨⟨false, rfl⟩, rfl⟩
    · exact ⟨⟨s.ctl.grantOutstanding, rfl⟩, rfl⟩
  rcases grantUnit_cases who q (takeGrant who s) with ⟨-, e⟩ | ⟨-, e⟩ <;> rw [e]
  · rcases cacheStep_cases { takeGrant who s with conv := beginMeasurement who q (takeGrant who s) } with
      e | ⟨slot, -, -, e⟩ <;> rw [e] <;> exact taken
  · exact taken

/-- The unit as a grant for an enabled channel leaves it is not in IDLE (R5). -/
theorem cacheStep_standing (s : State) : (cacheStep s).standing = { s.standing with unitIdle := false } := by
  rcases cacheStep_cases s with e | ⟨slot, -, -, e⟩ <;> rw [e]
  · rcases enterRefSettle_phase s.conv with phase | phase <;> simp [State.standing, enterRefSettle_owner, phase]
  · rfl

theorem granted_standing (who : Requester) (q : Request) (s : State) :
    { (s.granted who q).standing with unitIdle := false } = s.standing.serving who := by
  cases who <;> rfl

/-- The grants of a step decide, where there are enough of them. -/
theorem arbitrateUpTo_decides (n : Nat) (s : State) (enough : s.doomed < n) :
    Decides s.standing (arbitrateUpTo n s).standing := by
  induction n generalizing s with
  | zero => exact absurd enough (Nat.not_lt_zero _)
  | succ n ih =>
    by_cases free : s.arb.holder = none
    · cases chosen : s.arb.choose with
      | none =>
        rw [arbitrateUpTo_unasked _ chosen]
        refine .stands fun _ who => ?_
        obtain ⟨noScan, noSpot⟩ := choose_none chosen
        cases who <;> simp [State.standing, Standing.asks, *]
      | some request =>
        obtain ⟨who, q⟩ := request
        have asks : s.standing.asks who = true := by
          have waits := choose_waits chosen
          cases who <;> simp_all [State.standing, Standing.asks]
        rw [arbitrateUpTo_chosen _ free chosen]
        split
        · rw [cacheStep_standing, granted_standing]
          exact .grants who free asks
        · next disabled =>
          have fewer := doomed_lt chosen (by simpa using disabled) (emptyResult (disabledStatus who))
          have ended := deliver_delivers who (emptyResult (disabledStatus who)) (parkUnit (s.granted who q))
          have parked : (parkUnit (s.granted who q)).standing = (s.standing.serving who).parked := by cases who <;> rfl
          exact .refuses who free asks (parked ▸ ended) (ih _ (by omega))
    · have serves : s.arb.holder.isSome = true := Option.isSome_iff_ne_none.2 free
      rw [arbitrateUpTo, if_pos serves]
      exact .stands fun none => absurd none free

/-- Three grants are enough. -/
theorem arbitrate_decides (s : State) : Decides s.standing (arbitrate s).standing :=
  arbitrateUpTo_decides 3 s (Nat.lt_succ_of_le (Nat.add_le_add (refusals_le s _) (refusals_le s _)))

end Sys2Proof.Machine
end

section
/-! SUPPORT. Everything a step can do to the standing, act by act, each with the arbiter's decision that ends it. -/

namespace Sys2Proof.Machine

/-! ### The acts -/

/-- One act of a step upon the standing. -/
inductive Act : Standing → Standing → Prop where
  /-- The arbiter decides (R99, R100). -/
  | decides {a b} (next : Decides a b) : Act a b
  /-- A measurement ends and its owner takes the result (R4, R79, R106). -/
  | finishes {a b c} (who : Requester) (owner : a.owner = some who) (ended : Delivers who a.parked b)
      (next : Decides b c) : Act a c
  /-- A measurement of nobody ends. -/
  | releases {a b} (unowned : a.owner = none) (next : Decides a.parked b) : Act a b
  /-- A start attempt outside a scan starts one (R74, R76). -/
  | starts {a b c} (outside : ¬a.InScan) (walk : Walks .reaching a.started b) (next : Decides b c) : Act a c
  /-- A start attempt outside a scan skips it (R75). -/
  | skips {a} (outside : ¬a.InScan) : Act a a.skipped
  /-- A start attempt outside a scan is held (R74). -/
  | waits {a} (outside : ¬a.InScan) : Act a a.startHeld
  /-- A trigger is latched in a scan or a hold (R90). -/
  | latches {a} (busy : a.InScan ∨ a.state = .holdStart) : Act a { a with triggered := true }
  /-- A held record finds its place (R83). -/
  | reoffers {a b c} (held : a.state = .holdRecord) (walk : Walks .recording a.recordTaken b) (next : Decides b c) :
      Act a c
  /-- ARM_TRIGGER (R73). -/
  | arms {a} (idle : a.state = .idle) : Act a { a with state := .armed }
  /-- STOP and ABORT where no scan is in progress (R93, R94). -/
  | rests {a} (outside : ¬a.InScan) : Act a a.atRest
  /-- STOP in a scan (R93). -/
  | stops {a} (inside : a.InScan) : Act a { a with stopRequested := true }
  /-- ABORT in a scan (R95). -/
  | aborts {a b} (inside : a.InScan) (next : Decides a.cutOff.atRest b) : Act a b
  /-- SPOT (R105). -/
  | asksSpot {a b} (noSpot : a.spot = .none) (next : Decides { a with spot := .waiting, spotAsks := true } b) : Act a b
  /-- CANCEL_SPOT of a spot that waits (R107). -/
  | withdrawsSpot {a b} (waiting : a.spot = .waiting) (next : Decides { a with spot := .none, spotAsks := false } b) :
      Act a b
  /-- RESET_ENGINE and the hard reset (R193, R194). -/
  | resets {a} : Act a State.reset.standing

/-- The standing of `s` has come from `a` by acts. -/
def ActsFrom (a : Standing) (s : State) : Prop := Relation.ReflTransGen Act a s.standing

variable {a : Standing} {s t : State}

/-! ### The unit -/

/-- A boundary leaves the standing, before an ended measurement is handed over (R6 to R13). -/
theorem boundaryOutcome_standing (s : State) : (boundaryOutcome s.conv.boundary s).1.standing = s.standing := by
  have condition := boundary_condition (c := s.conv) rfl
  cases k : s.conv.boundary <;> rw [k] at condition
  case windowEnd =>
    have busy : decide (s.conv.phase = .idle) = false := by
      rcases condition with ⟨phase, -⟩ | phase <;> simp [phase]
    refine windowEnds_keeps (P := fun out => out.1.standing = s.standing) rfl (fun _ => ?_) ?_
    · simp [State.standing, ConvUnit.enterSnsCount, ConvUnit.goodRepetition, ConvUnit.periodCounted, busy]
    · have same : s.conv.periodCounted.goodRepetition.clipped.phase = s.conv.phase ∧
          s.conv.periodCounted.goodRepetition.clipped.owner = s.conv.owner := by
        unfold ConvUnit.clipped
        split <;> exact ⟨rfl, rfl⟩
      simp [State.standing, same]
  case ignored | counted | refTimeout => rfl
  case refSettleExpiry | snsSettleExpiry =>
    have phase : s.conv.phase = _ := condition
    simp [State.standing, boundaryOutcome, refSettleExpires, snsSettleExpires, ConvUnit.enterRefCount,
      ConvUnit.enterSnsCount, phase]
  case firstHalfEnd =>
    obtain ⟨phase, -⟩ := condition
    simp [State.standing, boundaryOutcome, firstHalfEnds, ConvUnit.enterSnsCountB, phase]

/-- An edge leaves the standing, before an ended measurement is handed over (R8 to R14). -/
theorem edgeOutcome_standing (s : State) : (edgeOutcome s.conv.edge s).1.standing = s.standing := by
  have condition := edge_condition (c := s.conv) rfl
  cases k : s.conv.edge <;> rw [k] at condition
  case referenceComplete =>
    have phase : s.conv.phase = _ := condition
    show (referenceCompletes s).1.standing = s.standing
    rcases Nat.lt_or_ge s.conv.wc Config.minWindow with short | long
    · rw [referenceCompletes_short short]
      rfl
    · rw [referenceCompletes_long long]
      simp [State.standing, ConvUnit.enterSnsSettle, phase]
  case openingEdge =>
    have phase : s.conv.phase = _ := condition
    simp [State.standing, edgeOutcome, edgeOpens, phase]
  case ignored | counted | sensorOverrange => rfl

theorem closeScan_standing (t : Termination) (s : State) : (closeScan t s).standing = s.standing := by
  simp [State.standing]

theorem cutOffScan_standing (s : State) : (cutOffScan s).standing = s.standing.cutOff := by
  unfold cutOffScan Standing.cutOff
  dsimp only
  by_cases owned : s.conv.owner = some .scan
  · have owned' : s.standing.owner = some .scan := owned
    rw [if_pos owned, if_pos owned']
    rfl
  · have owned' : ¬s.standing.owner = some .scan := owned
    rw [if_neg owned, if_neg owned']
    rfl

namespace ActsFrom

/-- An operation beside the standing. -/
theorem beside (h : ActsFrom a s) (e : t.standing = s.standing) : ActsFrom a t := by
  unfold ActsFrom
  rw [e]
  exact h

theorem acted (h : ActsFrom a s) (act : Act s.standing t.standing) : ActsFrom a t := Relation.ReflTransGen.tail h act

theorem arbitrate (h : ActsFrom a s) : ActsFrom a (arbitrate s) := h.acted (.decides (arbitrate_decides s))

theorem finish (r : Result) (h : ActsFrom a s) : ActsFrom a (finish r s) := by
  unfold Machine.finish
  split
  · next unowned => exact h.acted (.releases unowned (arbitrate_decides (parkUnit s)))
  · next who owner =>
    exact h.acted (.finishes who owner (deliver_delivers who r (parkUnit s)) (arbitrate_decides _))

theorem settleUnit {out : State × Option Result} (h : ActsFrom a out.1) : ActsFrom a (settleUnit out) := by
  obtain ⟨u, _ | r⟩ := out
  · exact h
  · exact h.finish r

theorem takeBoundary (h : ActsFrom a s) : ActsFrom a (takeBoundary s.conv.boundary s) := by
  rw [takeBoundary_eq]
  exact settleUnit (h.beside (boundaryOutcome_standing s))

theorem takeEdge (h : ActsFrom a s) : ActsFrom a (takeEdge s.conv.edge s) := by
  rw [takeEdge_eq]
  exact settleUnit (h.beside (edgeOutcome_standing s))

theorem boundaryRow (k : Boundary) (h : ActsFrom a s) : ActsFrom a (boundaryRow k s) :=
  row_keeps h fun next => next ▸ h.takeBoundary

theorem edgeRow (k : Edge) (h : ActsFrom a s) : ActsFrom a (edgeRow k s) :=
  row_keeps h fun next => next ▸ h.takeEdge

/-! ### Start attempts, triggers and room reports -/

theorem attemptStart (outside : ¬s.standing.InScan) (h : ActsFrom a s) : ActsFrom a (attemptStart s).1 := by
  rcases Nat.lt_or_ge s.fifo.records.length 32 with room | full
  · rw [attemptStart_room s room]
    exact h.acted (.starts outside (scanStarted_walks s) (arbitrate_decides _))
  · rw [attemptStart_full s full, State.attempted, if_neg (Nat.not_lt.2 full)]
    split
    · exact h.acted (.skips outside)
    · exact h.acted (.waits outside)

theorem takeTrigger (h : ActsFrom a s) : ActsFrom a (takeTrigger s) := by
  have latch : s.standing.InScan ∨ s.ctl.state = .holdStart → ActsFrom a
      (if s.ctl.pendingTrigger then overrun s else { s with ctl := { s.ctl with pendingTrigger := true } }) :=
    fun busy => by
      split
      · exact h.beside rfl
      · exact h.acted (.latches busy)
  unfold Machine.takeTrigger
  split
  · exact h
  · next armed => exact h.attemptStart (by simp [State.standing, armed])
  · next scanning => exact latch (.inl (.inl scanning))
  · next held => exact latch (.inr held)
  · next held => exact latch (.inl (.inr held))

theorem reofferRecord (held : s.ctl.state = .holdRecord) (h : ActsFrom a s) : ActsFrom a (reofferRecord s) := by
  rcases Nat.lt_or_ge 31 (s.fifo.records.length + s.fifo.reserved.toNat) with full | place
  · rwa [reofferRecord_unplaced full]
  · cases record : s.ctl.held with
    | none =>
      unfold Machine.reofferRecord
      rwa [record]
    | some r =>
      rw [reofferRecord_placed record place]
      refine h.acted (.reoffers held (.counts r.status.isFault false ?_) (arbitrate_decides _))
      have walks := walkedOn_walks r (({ s with ctl := { s.ctl with state := .scanning, held := none } }.appended
        (.measurement r)).counted r false)
      rwa [counted_standing] at walks

theorem roomReport (h : ActsFrom a s) : ActsFrom a (roomReport s) := by
  unfold Machine.roomReport
  split
  · next held => exact h.attemptStart (by simp [State.standing, held])
  · next held => exact h.reofferRecord held
  all_goals exact h

theorem takeLfBoundary (k : LfBoundary) (h : ActsFrom a s) : ActsFrom a (takeLfBoundary k s) := by
  cases k with
  | ignored => exact h
  | counted | unitEnd => exact h.beside rfl
  | expiry =>
    show ActsFrom a (timerExpires s)
    unfold timerExpires deliverExpiry
    split
    · exact takeTrigger (h.beside rfl)
    · exact h.beside rfl

theorem lfRow (k : LfBoundary) (h : ActsFrom a s) : ActsFrom a (lfRow k s) := guarded_keeps h (h.takeLfBoundary k)

theorem unitRow (h : ActsFrom a s) : ActsFrom a (unitRow s) := by
  unfold Machine.unitRow
  split <;> exact h.lfRow _

theorem trigChanges (high : Bool) (h : ActsFrom a s) : ActsFrom a (trigChanges high s) := by
  unfold Machine.trigChanges deliverEdge
  dsimp only
  split
  · exact h
  · split
    · exact h.beside rfl
    · split
      · exact takeTrigger (h.beside rfl)
      · exact h.beside rfl

/-! ### Commands -/

theorem startSingle (h : ActsFrom a s) : ActsFrom a (startSingle s).state := by
  unfold Machine.startSingle
  split
  · exact h
  · next accepted =>
    obtain ⟨idle, -⟩ := startRefusal_none accepted
    split
    · exact h
    · exact attemptStart (s := s.runBegun .single 1) (by simp [State.standing, State.runBegun, idle]) (h.beside rfl)

theorem startTimed (h : ActsFrom a s) : ActsFrom a (startTimed s).state := by
  unfold Machine.startTimed
  split
  · exact h
  · next accepted =>
    obtain ⟨idle, -⟩ := startRefusal_none accepted
    exact attemptStart (s := { s.runBegun .timed s.ctl.scanCount.toNat with time := s.time.startTimer })
      (by simp [State.standing, State.runBegun, idle]) (h.beside rfl)

theorem armTrigger (h : ActsFrom a s) : ActsFrom a (armTrigger s).state := by
  unfold Machine.armTrigger
  split
  · exact h
  · next accepted => exact h.acted (.arms (startRefusal_none accepted).1)

theorem stopRun (h : ActsFrom a s) : ActsFrom a (stopRun s).state := by
  unfold Machine.stopRun
  split
  · exact h
  iterate 2
    next outside => exact h.acted (.rests (by simp [State.standing, outside]))
  · next scanning => exact h.acted (.stops (.inl scanning))
  · next held => exact h.acted (.stops (.inr held))

theorem abortRun (h : ActsFrom a s) : ActsFrom a (abortRun s).state := by
  have aborted : s.standing.InScan →
      ActsFrom a (Machine.arbitrate (enterIdle (closeScan .aborted (cutOffScan s)))) := by
    refine fun inside => h.acted (.aborts inside ?_)
    rw [← cutOffScan_standing, ← closeScan_standing .aborted]
    exact arbitrate_decides (enterIdle (closeScan .aborted (cutOffScan s)))
  unfold Machine.abortRun
  split
  · exact h
  iterate 2
    next outside => exact h.acted (.rests (by simp [State.standing, outside]))
  · next scanning => exact aborted (.inl scanning)
  · next held => exact aborted (.inr held)

theorem commit (h : ActsFrom a s) : ActsFrom a (commit s).state := by
  unfold Machine.commit
  split
  · exact h
  · split
    · exact h
    · dsimp only
      split <;> exact h.beside rfl

theorem setLength (h : ActsFrom a s) : ActsFrom a (setLength s).state := by
  unfold Machine.setLength
  split
  · exact h
  · exact withArgs_keeps h fun _ => h.beside rfl

theorem writeEntry (h : ActsFrom a s) : ActsFrom a (writeEntry s).state := by
  unfold Machine.writeEntry
  split
  · exact h
  · exact withArgs_keeps h fun _ => h.beside rfl

theorem setClock (h : ActsFrom a s) : ActsFrom a (setClock s).state := by
  unfold Machine.setClock
  split
  · exact h
  · exact withArgs_keeps h fun _ => h.beside rfl

theorem engineReset (h : ActsFrom a s) : ActsFrom a (engineReset s) := h.acted .resets

theorem spotCommand (h : ActsFrom a s) : ActsFrom a (spotCommand s).state := by
  unfold Machine.spotCommand
  split
  · exact h
  · next accepted =>
    have noSpot : s.spot.state = .none := by
      cases state : s.spot.state <;> rw [state] at accepted <;> first | rfl | cases accepted
    refine withArgs_keeps h fun q => ?_
    split
    · exact h.acted (.asksSpot noSpot (arbitrate_decides
        { s with spot := { s.spot with request := q, state := .waiting }, arb := { s.arb with spotReq := some q } }))
    · exact h

theorem cancelSpot (h : ActsFrom a s) : ActsFrom a (cancelSpot s).state := by
  unfold Machine.cancelSpot
  split
  · exact h
  · next waiting =>
    exact h.acted (.withdrawsSpot waiting (arbitrate_decides
      (endSpot (emptyResult .cancelled) { s with arb := { s.arb with spotReq := none } })))
  · show ActsFrom a (Machine.arbitrate (stopSpot s))
    unfold stopSpot
    split
    · next owner =>
      exact h.acted (.finishes .spot owner .spot (arbitrate_decides (endSpot s.conv.cancelledResult (parkUnit s))))
    · exact h.arbitrate

theorem runCommand (x : Command) (h : ActsFrom a s) : ActsFrom a (runCommand x s).state := by
  cases x with
  | startSingle => exact h.startSingle
  | startTimed => exact h.startTimed
  | armTrigger => exact h.armTrigger
  | stop => exact h.stopRun
  | abort => exact h.abortRun
  | resetEngine => exact h.engineReset
  | setLength => exact h.setLength
  | writeEntry => exact h.writeEntry
  | commit => exact h.commit
  | spot => exact h.spotCommand
  | cancelSpot => exact h.cancelSpot
  | setClock => exact h.setClock
  | flushFifo => exact roomReport (h.beside rfl)
  | invalidateCache => exact h.beside rfl
  | writeChannel | writeReference | writeSlot | preloadWindow | readEntry | readChannel | readReference | readCache |
      readSlot =>
    exact withArgs_keeps h fun _ => h.beside rfl

/-! ### Register accesses and frames -/

theorem takeCode (v : Byte) (h : ActsFrom a s) : ActsFrom a (takeCode v s) := by
  unfold Machine.takeCode
  split
  · next x _ => exact (h.runCommand x).beside rfl
  · exact h.beside rfl

theorem stage (which : StagedByte) (v : Byte) (h : ActsFrom a s) : ActsFrom a (stage which v s) := by
  cases which <;> exact h.beside rfl

theorem writeParam (b : Addr) (v : Byte) (h : ActsFrom a s) : ActsFrom a (writeParam b v s) := by
  unfold Machine.writeParam
  split <;> exact h.beside rfl

theorem writeValue (b : Addr) (v : Byte) (h : ActsFrom a s) : ActsFrom a (writeValue b v s) := by
  unfold Machine.writeValue
  split
  · exact h.takeCode v
  iterate 12 exact h.beside rfl
  · exact h.writeParam b v

/-- A write row takes its byte, or nothing happens (log 3). -/
theorem writeRow (b : Addr) {f : State → State} (h : ActsFrom a s) (hf : ActsFrom a (f s)) :
    ActsFrom a (writeRow b f s) :=
  guarded_keeps h (hf.beside (t := advance (f s)) rfl)

theorem commandRow (x : Command) (h : ActsFrom a s) : ActsFrom a (commandRow x (Machine.runCommand x) s) :=
  h.writeRow _ ((h.runCommand x).beside rfl)

theorem beforeRead (b : Addr) (h : ActsFrom a s) : ActsFrom a (beforeRead b s) := by
  unfold Machine.beforeRead
  split <;> exact h.beside rfl

theorem popResult (h : ActsFrom a s) : ActsFrom a (popResult s) :=
  guarded_keeps (roomReport (h.beside rfl)) h

theorem readByte (h : ActsFrom a s) : ActsFrom a (readByte s) := by
  rw [readByte_eq]
  have shifted := (h.beforeRead s.port.pointer).beside
    (t := shiftOut (readValue (Machine.beforeRead s.port.pointer s) s.port.pointer) _) rfl
  unfold afterRead
  split
  · exact shifted.popResult
  · exact shifted.beside rfl
  · exact shifted

theorem readBytes (n : Nat) (h : ActsFrom a s) : ActsFrom a (readBytes n s) := by
  induction n generalizing s with
  | zero => exact h
  | succ n ih => exact ih h.readByte

theorem readRow (b : Addr) (h : ActsFrom a s) : ActsFrom a (readRow b s) := guarded_keeps h (h.readBytes _)

theorem accessRow (b : Addr) (x : Access) (h : ActsFrom a s) : ActsFrom a (accessRow b x s) := by
  cases x with
  | read => exact h.readRow b
  | write v => exact h.writeRow b (h.writeValue b v)

theorem csFalls (h : ActsFrom a s) : ActsFrom a (csFalls s) := by
  unfold Machine.csFalls
  dsimp only
  split
  · exact h
  · split <;> exact h.beside rfl

theorem csRises (reads : Nat) (h : ActsFrom a s) : ActsFrom a (csRises reads s) := by
  unfold Machine.csRises
  dsimp only
  split
  · split
    · exact (h.readBytes reads).beside rfl
    · exact h.beside rfl
  · exact h

/-! ### Resets -/

theorem hardReset (h : ActsFrom a s) (u : State) : ActsFrom a (hardResetValues u) := h.acted .resets

theorem rstRises (h : ActsFrom a s) : ActsFrom a (rstRises s) := by
  unfold Machine.rstRises
  dsimp only
  split
  · split <;> exact h.beside rfl
  · exact h

theorem supplyCrosses (above : Bool) (h : ActsFrom a s) : ActsFrom a (supplyCrosses above s) := by
  unfold Machine.supplyCrosses
  dsimp only
  split
  · exact h
  · split
    · split <;> exact h.beside rfl
    · exact h.hardReset _

/-! ### Every command -/

/-- No command does anything to the standing but by the acts. -/
theorem exec (i : Instr) (h : ActsFrom a s) : ∃ t, exec i s = .next t ∧ ActsFrom a t := by
  cases i
  case startSingle | startTimed | armTrigger | stop | abort | resetEngine | setLength | writeEntry | readEntry |
      commit | writeChannel | readChannel | writeReference | readReference | preloadWindow | readCache |
      invalidateCache | spot | cancelSpot | flushFifo | writeSlot | readSlot | setClock =>
    exact ⟨_, rfl, h.commandRow _⟩
  case unknownCommand code => exact ⟨_, rfl, h.writeRow _ (h.takeCode code)⟩
  case frameStart => exact ⟨_, rfl, h.csFalls⟩
  case addressByte b => exact ⟨_, rfl, guarded_keeps h (h.beside rfl)⟩
  case frameEnd reads => exact ⟨_, rfl, h.csRises reads⟩
  case resultByte0Read | resultByte15Read | eventByte0Read | eventByte7Read | spotByte0Read | snapshotLowByteRead =>
    exact ⟨_, rfl, h.readRow _⟩
  case stagingByteWrite which v => exact ⟨_, rfl, h.writeRow _ (h.stage which v)⟩
  case scanIntervalWrite | scanCountWrite | windowMaxWrite | scanCtrlWrite | fifoThresholdWrite | cacheMaxAgeWrite |
      attnFlagsWrite | attnEnableWrite =>
    exact ⟨_, rfl, h.writeRow _ (h.beside rfl)⟩
  case registerWrite b x => exact ⟨_, rfl, h.accessRow b x⟩
  case hardReset => exact ⟨_, rfl, h.hardReset _⟩
  case resetRelease => exact ⟨_, rfl, h.rstRises⟩
  case powerOnReset above => exact ⟨_, rfl, h.supplyCrosses above⟩
  case trigEdge high => exact ⟨_, rfl, h.trigChanges high⟩
  case scanTimerUnit => exact ⟨_, rfl, h.unitRow⟩
  case scanTimerExpiry => exact ⟨_, rfl, h.lfRow _⟩
  case lfPeriodBoundary => exact ⟨_, rfl, h.takeLfBoundary _⟩
  case grant => exact ⟨_, rfl, h.arbitrate⟩
  case refSettleExpiry | refTimeout | snsSettleExpiry | firstHalfEnd | windowEnd => exact ⟨_, rfl, h.boundaryRow _⟩
  case openingEdge | referenceComplete | sensorOverrange => exact ⟨_, rfl, h.edgeRow _⟩
  case periodBoundary => exact ⟨_, rfl, h.takeBoundary⟩
  case oscillatorEdge => exact ⟨_, rfl, h.takeEdge⟩
  case heldStartRetry =>
    exact ⟨_, rfl, row_keeps h fun ⟨held, _⟩ => h.attemptStart (by simp [State.standing, held])⟩
  case heldRecordReoffer => exact ⟨_, rfl, row_keeps h h.reofferRecord⟩
  case pendingTriggerStart =>
    exact ⟨_, rfl, row_keeps h fun ⟨armed, _⟩ => h.attemptStart (by simp [State.standing, armed])⟩
  case swap => exact ⟨_, rfl, guarded_keeps h (h.beside rfl)⟩

end ActsFrom

/-- A step does nothing to the standing but by the acts. -/
theorem step_acts (run : step s = .next t) : Relation.ReflTransGen Act s.standing t.standing := by
  unfold step at run
  split at run
  · cases run
    exact .refl
  · next i rest _ =>
    obtain ⟨u, run', acts⟩ := ActsFrom.exec (a := s.standing) (s := { s with pending := rest }) i .refl
    cases run'.symm.trans run
    exact acts

/-- A law of the standing that every act keeps is kept by a step. -/
theorem step_keeps {P : Standing → Prop} (run : step s = .next t) (law : P s.standing)
    (act : ∀ {a b}, Act a b → P a → P b) : P t.standing := by
  have acts := step_acts run
  generalize t.standing = b at acts ⊢
  induction acts with
  | refl => exact law
  | tail _ last ih => exact act last ih

end Sys2Proof.Machine
end

section
/-! SUPPORT. The tallies of a scan through the acts of a step (R85, R196). -/

namespace Sys2Proof.Machine

variable {a b : Standing} {who : Requester}

/-- The tallies stand with the walk's entry (R85, R196). -/
structure Standing.Tallied (a : Standing) : Prop where
  measured : a.measured = a.entryIndex
  faults : a.faults ≤ a.measured
  discarded : a.discarded ≤ a.measured

/-- The law of the tallies, of the standing alone. -/
def Standing.TallyLaw (a : Standing) : Prop := a.InScan → a.Tallied

theorem tallyLaw_iff (s : State) : TallyLaw s ↔ s.standing.TallyLaw :=
  ⟨fun law scan => ⟨(law scan).1, (law scan).2.1, (law scan).2.2⟩,
    fun law scan => ⟨(law scan).measured, (law scan).faults, (law scan).discarded⟩⟩

/-- Outside a scan the law says nothing. -/
theorem Standing.TallyLaw.of_outside (outside : ¬a.InScan) : a.TallyLaw := fun scan => absurd scan outside

theorem Standing.Tallied.law (h : a.Tallied) : a.TallyLaw := fun _ => h

/-- A scan starts with its tallies at 0 (R76). -/
theorem Standing.started_tallied (a : Standing) : a.started.Tallied := ⟨rfl, Nat.le_refl _, Nat.le_refl _⟩

/-- A counted record puts the tallies one ahead of the entry (R85). -/
theorem Standing.Tallied.counted (h : a.Tallied) (fault dropped : Bool) :
    Standing.Tallied { a.counted fault dropped with entryIndex := a.entryIndex + 1 } where
  measured := congrArg (· + 1) h.measured
  faults := Nat.add_le_add h.faults (Bool.toNat_le fault)
  discarded := Nat.add_le_add h.discarded (Bool.toNat_le dropped)

/-- What the tallies are at each stage of the walk. -/
def Stage.Tallies : Stage → Standing → Prop
  | .reaching, a | .recording, a => a.Tallied
  | .moving, a => Standing.Tallied { a with entryIndex := a.entryIndex + 1 }
  | .ending, _ | .attempting, _ => True

theorem Walks.tallyLaw {stage : Stage} (walk : Walks stage a b) (h : stage.Tallies a) : b.TallyLaw := by
  induction walk with
  | requests | holds => exact Standing.Tallied.law ⟨h.measured, h.faults, h.discarded⟩
  | records _ ih => exact ih h
  | counts fault dropped _ ih => exact ih (h.counted fault dropped)
  | advances _ ih => exact ih h
  | ends _ ih | restarts _ _ ih => exact ih trivial
  | starts _ ih => exact ih (Standing.started_tallied _)
  | rests | arms | skips | waits => exact .of_outside (by rintro (h | h) <;> cases h)

theorem Delivers.tallyLaw (delivers : Delivers who a b) (law : a.TallyLaw) : b.TallyLaw := by
  cases delivers with
  | spot => exact fun scan => ⟨(law scan).measured, (law scan).faults, (law scan).discarded⟩
  | scan scanning walk => exact walk.tallyLaw (law (.inl scanning))
  | dropped => exact law

/-- The law reads the controller's state and the walk alone. -/
theorem Standing.TallyLaw.beside (law : a.TallyLaw) (state : b.state = a.state) (entry : b.entryIndex = a.entryIndex)
    (measured : b.measured = a.measured) (faults : b.faults = a.faults) (discarded : b.discarded = a.discarded) :
    b.TallyLaw := by
  intro scan
  have tallied := law (by rwa [InScan, ← state])
  exact ⟨by rw [measured, entry, tallied.measured], by rw [faults, measured]; exact tallied.faults,
    by rw [discarded, measured]; exact tallied.discarded⟩

theorem Decides.tallyLaw (decides : Decides a b) (law : a.TallyLaw) : b.TallyLaw := by
  have serving : ∀ {a : Standing} (who : Requester), a.TallyLaw → (a.serving who).TallyLaw := fun who law => by
    cases who <;> exact law.beside rfl rfl rfl rfl rfl
  induction decides with
  | stands => exact law
  | grants who => exact serving who law
  | refuses who _ _ ended _ ih => exact ih (ended.tallyLaw ((serving who law).beside rfl rfl rfl rfl rfl))

theorem Act.tallyLaw (act : Act a b) (law : a.TallyLaw) : b.TallyLaw := by
  have parked : a.parked.TallyLaw := law.beside rfl rfl rfl rfl rfl
  cases act with
  | decides next => exact next.tallyLaw law
  | finishes who _ ended next => exact next.tallyLaw (ended.tallyLaw parked)
  | releases _ next => exact next.tallyLaw parked
  | starts _ walk next => exact next.tallyLaw (walk.tallyLaw (Standing.started_tallied a))
  | reoffers held walk next =>
    have tallied := law (.inr held)
    exact next.tallyLaw (walk.tallyLaw (stage := .recording) ⟨tallied.measured, tallied.faults, tallied.discarded⟩)
  | aborts _ next => exact next.tallyLaw (.of_outside (by rintro (h | h) <;> cases h))
  | asksSpot _ next | withdrawsSpot _ next => exact next.tallyLaw (law.beside rfl rfl rfl rfl rfl)
  | latches | stops => exact law.beside rfl rfl rfl rfl rfl
  | skips | waits | arms | rests | resets => exact .of_outside (by rintro (h | h) <;> cases h)

/-- Settles O58: act by act, through every stage of the walk. -/
theorem stepKeepsTallyLaw : Obligations.StepKeepsTallyLaw := by
  intro s t law run
  exact (tallyLaw_iff t).2 (step_keeps run ((tallyLaw_iff s).1 law) Act.tallyLaw)

end Sys2Proof.Machine
end

section
/-! SUPPORT. Who waits and who is served through the acts of a step (R4, R65, R97 to R100, R103). -/

namespace Sys2Proof.Machine

variable {a b : Standing} {who : Requester}

/-! ### The law -/

namespace Standing

/-- The holder is the unit's owner, and the spot stands where it says (R4, R103). -/
structure Served (a : Standing) : Prop where
  free : a.holder = none ↔ a.unitIdle = true
  owner : a.owner = a.holder
  waiting : a.spot = .waiting ↔ a.spotAsks = true
  running : a.spot = .running ↔ a.holder = some .spot

/-- The flags of the controller fit its state (R97). -/
structure Flags (a : Standing) : Prop where
  unstopped : ¬a.InScan → a.stopRequested = false
  untriggered : a.state = .idle ∨ a.state = .armed → a.triggered = false
  triggered : a.state = .holdStart → a.triggered = true
  holds : a.holdsRecord = true ↔ a.state = .holdRecord

/-- Grant outstanding stands with the scan's request, and the unit serves the scan in SCANNING alone (R65, R98). -/
structure Asked (a : Standing) : Prop where
  granted : a.grantOutstanding = true → a.state = .scanning
  asked : a.grantOutstanding = true ↔ a.scanAsks = true
  serves : a.holder = some .scan → a.state = .scanning
  apart : a.scanAsks = true → a.holder ≠ some .scan

/-- The law between the acts of a step and within them, but for the arbiter's decision, which comes last. -/
structure Law (a : Standing) : Prop extends Served a, Flags a, Asked a

/-- No request waits while the unit is free (R99, R100). -/
def Settled (a : Standing) : Prop := a.holder = none → ∀ who, a.asks who = false

end Standing

theorem holderMatchesUnit_iff (s : State) :
    HolderMatchesUnit s ↔
      (s.standing.holder = none ↔ s.standing.unitIdle = true) ∧ s.standing.owner = s.standing.holder := by
  simp [State.standing]

theorem law_iff (s : State) :
    s.standing.Law ↔ HolderMatchesUnit s ∧ ControllerLaw s ∧ ScanRequestLaw s ∧ SpotLaw s := by
  rw [holderMatchesUnit_iff]
  constructor
  · intro law
    exact ⟨⟨law.free, law.owner⟩, ⟨law.unstopped, law.untriggered, law.triggered, law.holds, law.granted⟩,
      ⟨law.asked, law.serves, law.apart⟩, law.waiting, law.running⟩
  · rintro ⟨⟨free, owner⟩, ⟨unstopped, untriggered, triggered, holds, granted⟩, ⟨asked, serves, apart⟩,
      waiting, running⟩
    exact ⟨⟨free, owner, waiting, running⟩, ⟨unstopped, untriggered, triggered, holds⟩,
      granted, asked, serves, apart⟩

theorem settled_iff (s : State) : s.standing.Settled ↔ NoRequestWaitsForAFreeUnit s := by
  constructor
  · intro settled free
    have scan := settled free .scan
    have spot := settled free .spot
    simp only [Standing.asks, State.standing, Option.isSome_eq_false_iff, Option.isNone_iff_eq_none] at scan spot
    exact ⟨scan, spot⟩
  · intro settled free who
    obtain ⟨scan, spot⟩ := settled free
    cases who <;> simp [Standing.asks, State.standing, scan, spot]

namespace Standing

/-! ### Away from the arbiter -/

/-- The scan has neither a request nor a measurement nor a record in hand. -/
structure Away (a : Standing) : Prop extends Served a where
  unserved : a.holder ≠ some .scan
  unasked : a.scanAsks = false
  ungranted : a.grantOutstanding = false
  unheld : a.holdsRecord = false

/-- Being away reads neither the controller's state nor the tallies. -/
theorem Away.moved (h : a.Away) (state : EngineState) (entry measured faults discarded : Nat) (stop trigger : Bool) :
    Away { a with state := state, entryIndex := entry, measured := measured, faults := faults, discarded := discarded,
                  stopRequested := stop, triggered := trigger } :=
  ⟨⟨h.free, h.owner, h.waiting, h.running⟩, h.unserved, h.unasked, h.ungranted, h.unheld⟩

/-- Away from the arbiter the law is that of the flags. -/
theorem Away.law (h : a.Away) (flags : a.Flags) : a.Law where
  toServed := h.toServed
  toFlags := flags
  granted granted := by cases h.ungranted.symm.trans granted
  asked := by rw [h.ungranted, h.unasked]
  serves served := absurd served h.unserved
  apart asked := by cases h.unasked.symm.trans asked

/-- Outside a scan the controller is away from the arbiter. -/
theorem Law.away (law : a.Law) (outside : ¬a.InScan) : a.Away where
  toServed := law.toServed
  unserved served := outside (.inl (law.serves served))
  unasked := Bool.eq_false_iff.2 fun asked => outside (.inl (law.granted (law.asked.2 asked)))
  ungranted := Bool.eq_false_iff.2 fun granted => outside (.inl (law.granted granted))
  unheld := Bool.eq_false_iff.2 fun held => outside (.inr (law.holds.1 held))

/-- In HOLD(RECORD) it has its record in hand alone (R82). -/
theorem Law.recordTaken_away (law : a.Law) (held : a.state = .holdRecord) : a.recordTaken.Away where
  free := law.free
  owner := law.owner
  waiting := law.waiting
  running := law.running
  unserved served := by cases held.symm.trans (law.serves served)
  unasked := Bool.eq_false_iff.2 fun asked => by cases held.symm.trans (law.granted (law.asked.2 asked))
  ungranted := Bool.eq_false_iff.2 fun granted => by cases held.symm.trans (law.granted granted)
  unheld := rfl

theorem Flags.of_idle (idle : a.state = .idle) (stop : a.stopRequested = false) (trigger : a.triggered = false)
    (held : a.holdsRecord = false) : a.Flags where
  unstopped _ := stop
  untriggered _ := trigger
  triggered h := by cases idle.symm.trans h
  holds := by simp [held, idle]

theorem Flags.of_armed (armed : a.state = .armed) (stop : a.stopRequested = false) (trigger : a.triggered = false)
    (held : a.holdsRecord = false) : a.Flags where
  unstopped _ := stop
  untriggered _ := trigger
  triggered h := by cases armed.symm.trans h
  holds := by simp [held, armed]

theorem Flags.of_holdStart (holds : a.state = .holdStart) (stop : a.stopRequested = false)
    (trigger : a.triggered = true) (held : a.holdsRecord = false) : a.Flags where
  unstopped _ := stop
  untriggered h := by rw [holds] at h; simp at h
  triggered _ := trigger
  holds := by simp [held, holds]

theorem Flags.of_scan (inside : a.InScan) (held : a.holdsRecord = true ↔ a.state = .holdRecord) : a.Flags where
  unstopped h := absurd inside h
  untriggered h := by rcases inside with k | k <;> rw [k] at h <;> simp at h
  triggered h := by rcases inside with k | k <;> cases k.symm.trans h
  holds := held

theorem Away.atRest_law (h : a.Away) : a.atRest.Law :=
  (h.moved .idle _ _ _ _ false false).law (.of_idle rfl rfl rfl h.unheld)

theorem Away.skipped_law (h : a.Away) (stop : a.stopRequested = false) : a.skipped.Law :=
  (h.moved .armed _ _ _ _ _ false).law (.of_armed rfl stop rfl h.unheld)

theorem Away.startHeld_law (h : a.Away) (stop : a.stopRequested = false) : a.startHeld.Law :=
  (h.moved .holdStart _ _ _ _ _ true).law (.of_holdStart rfl stop rfl h.unheld)

/-- A scan that starts has asked for nothing yet (R76). -/
theorem Away.started (h : a.Away) : a.started.Away :=
  ⟨⟨h.free, h.owner, h.waiting, h.running⟩, h.unserved, h.unasked, rfl, rfl⟩

/-- The scan's request is placed in SCANNING (R78). -/
theorem Away.requested_law (h : a.Away) (scanning : a.state = .scanning) : a.requested.Law where
  free := h.free
  owner := h.owner
  waiting := h.waiting
  running := h.running
  toFlags := .of_scan (.inl scanning) (by simp [requested, h.unheld, scanning])
  granted _ := scanning
  asked := by simp [requested]
  serves _ := scanning
  apart _ := h.unserved

/-- A held record is the one thing in hand (R82). -/
theorem Away.recordHeld_law (h : a.Away) : a.recordHeld.Law where
  free := h.free
  owner := h.owner
  waiting := h.waiting
  running := h.running
  toFlags := .of_scan (.inr rfl) (by simp [recordHeld])
  granted granted := by cases h.ungranted.symm.trans granted
  asked := by simp [recordHeld, h.ungranted, h.unasked]
  serves served := absurd served h.unserved
  apart asked := by cases h.unasked.symm.trans asked

end Standing

/-! ### The walk -/

/-- At every stage of the walk the scan is away from the arbiter, and it is in SCANNING until an attempt is made. -/
def Stage.Law : Stage → Standing → Prop
  | .attempting, a => a.Away ∧ a.stopRequested = false
  | .reaching, a | .recording, a | .moving, a | .ending, a => a.Away ∧ a.state = .scanning

theorem Walks.law {stage : Stage} (walk : Walks stage a b) (h : stage.Law a) : b.Law := by
  induction walk with
  | requests => exact h.1.requested_law h.2
  | holds => exact h.1.recordHeld_law
  | records _ ih | ends _ ih => exact ih h
  | counts _ _ _ ih | advances _ ih => exact ih ⟨h.1.moved _ _ _ _ _ _ _, h.2⟩
  | restarts goesOn _ ih => exact ih ⟨h.1, goesOn⟩
  | starts _ ih => exact ih ⟨h.1.started, rfl⟩
  | rests => exact h.1.atRest_law
  | arms goesOn untriggered =>
    exact (h.1.moved .armed _ _ _ _ _ _).law (.of_armed rfl goesOn untriggered h.1.unheld)
  | skips => exact h.1.skipped_law h.2
  | waits => exact h.1.startHeld_law h.2

/-! ### The arbiter's decision -/

/-- A grant to a requester that asks (R99). -/
theorem Standing.Law.serving (law : a.Law) (free : a.holder = none) (asks : a.asks who = true) :
    (a.serving who).Law ∧ (a.serving who).holder = some who := by
  cases who with
  | scan =>
    have scanning := law.granted (law.asked.2 asks)
    have still : a.spot ≠ .running := fun running => by cases free.symm.trans (law.running.1 running)
    exact ⟨{ free := by simp [Standing.serving], owner := rfl, waiting := law.waiting,
             running := by simpa [Standing.serving] using still,
             toFlags := .of_scan (.inl scanning) law.holds,
             granted := nofun, asked := Iff.rfl, serves := fun _ => scanning, apart := nofun }, rfl⟩
  | spot =>
    exact ⟨{ free := by simp [Standing.serving], owner := rfl, waiting := by simp [Standing.serving],
             running := by simp [Standing.serving],
             unstopped := law.unstopped, untriggered := law.untriggered, triggered := law.triggered,
             holds := law.holds, granted := law.granted, asked := law.asked, serves := nofun,
             apart := fun _ => nofun }, rfl⟩

/-- The owner takes its result once the unit is free again (R4, R79, R106). -/
theorem Delivers.law (delivers : Delivers who a.parked b) (law : a.Law) (served : a.holder = some who) : b.Law := by
  cases delivers with
  | spot =>
    have running : a.spot = .running := law.running.2 served
    have unasked : a.spotAsks = false := Bool.eq_false_iff.2 fun asks => by
      cases running.symm.trans (law.waiting.2 asks)
    exact { free := by simp [Standing.parked], owner := rfl, waiting := by simp [Standing.parked, unasked],
            running := by simp [Standing.parked],
            unstopped := law.unstopped, untriggered := law.untriggered, triggered := law.triggered,
            holds := law.holds, granted := law.granted, asked := law.asked, serves := nofun,
            apart := fun _ => nofun }
  | dropped elsewhere => exact absurd (law.serves served) elsewhere
  | scan scanning walk =>
    have still : a.spot ≠ .running := fun running => by cases served.symm.trans (law.running.1 running)
    have unasked : a.scanAsks = false := Bool.eq_false_iff.2 fun asks => law.apart asks served
    have ungranted : a.grantOutstanding = false := Bool.eq_false_iff.2 fun granted => by
      cases unasked.symm.trans (law.asked.1 granted)
    have unheld : a.holdsRecord = false := Bool.eq_false_iff.2 fun held => by
      cases (law.serves served).symm.trans (law.holds.1 held)
    refine walk.law ⟨?_, scanning⟩
    exact { free := by simp [Standing.parked], owner := rfl, waiting := law.waiting,
            running := by simpa [Standing.parked] using still,
            unserved := nofun, unasked := unasked, ungranted := ungranted, unheld := unheld }

/-- After the decision no request waits for a free unit (R99, R100). -/
theorem Decides.law (decides : Decides a b) (law : a.Law) : b.Law ∧ b.Settled := by
  induction decides with
  | stands settled => exact ⟨law, settled⟩
  | grants who free asks =>
    obtain ⟨law, served⟩ := law.serving free asks
    exact ⟨law, fun free => by cases served.symm.trans free⟩
  | refuses who free asks ended _ ih =>
    obtain ⟨law, served⟩ := law.serving free asks
    exact ih (ended.law law served)

/-! ### The acts -/

/-- A scan cut off leaves nothing at the arbiter (R95). -/
theorem Standing.Law.cutOff_away (law : a.Law) : a.cutOff.Away := by
  unfold Standing.cutOff
  split
  · next owned =>
    have still : a.spot ≠ .running := fun running => by
      cases owned.symm.trans (law.owner.trans (law.running.1 running))
    exact { free := by simp [Standing.parked], owner := rfl, waiting := law.waiting,
            running := by simpa [Standing.parked] using still,
            unserved := nofun, unasked := rfl, ungranted := rfl, unheld := rfl }
  · next unowned =>
    exact { free := law.free, owner := law.owner, waiting := law.waiting, running := law.running,
            unserved := fun served => unowned (law.owner.trans served),
            unasked := rfl, ungranted := rfl, unheld := rfl }

/-- A unit without an owner stands parked already (R4). -/
theorem Standing.Law.parked_eq (law : a.Law) (unowned : a.owner = none) : a.parked = a := by
  have free : a.holder = none := law.owner.symm.trans unowned
  have idle : a.unitIdle = true := law.free.1 free
  obtain ⟨⟩ := a
  simp_all [Standing.parked]

/-- A change of the controller's flags in the state it is in. -/
theorem Standing.Law.withFlags (law : a.Law) (stop trigger : Bool)
    (flags : Standing.Flags { a with stopRequested := stop, triggered := trigger }) :
    Standing.Law { a with stopRequested := stop, triggered := trigger } where
  free := law.free
  owner := law.owner
  waiting := law.waiting
  running := law.running
  toFlags := flags
  granted := law.granted
  asked := law.asked
  serves := law.serves
  apart := law.apart

/-- A spot that is not being served comes to wait, or waits no longer (R105, R107). -/
theorem Standing.Law.withSpot (law : a.Law) (still : a.spot ≠ .running) {spot : SpotState} {asks : Bool}
    (waiting : spot = .waiting ↔ asks = true) (unserved : spot ≠ .running) :
    Standing.Law { a with spot := spot, spotAsks := asks } where
  free := law.free
  owner := law.owner
  waiting := waiting
  running := ⟨fun running => absurd running unserved, fun served => absurd (law.running.2 served) still⟩
  unstopped := law.unstopped
  untriggered := law.untriggered
  triggered := law.triggered
  holds := law.holds
  granted := law.granted
  asked := law.asked
  serves := law.serves
  apart := law.apart

theorem Act.law (act : Act a b) (h : a.Law ∧ a.Settled) : b.Law ∧ b.Settled := by
  obtain ⟨law, settled⟩ := h
  cases act with
  | decides next => exact next.law law
  | finishes who owner ended next => exact next.law (ended.law law (law.owner.symm.trans owner))
  | releases unowned next => exact next.law (by rwa [law.parked_eq unowned])
  | starts outside walk next => exact next.law (walk.law ⟨(law.away outside).started, rfl⟩)
  | skips outside => exact ⟨(law.away outside).skipped_law (law.unstopped outside), settled⟩
  | waits outside => exact ⟨(law.away outside).startHeld_law (law.unstopped outside), settled⟩
  | reoffers held walk next => exact next.law (walk.law ⟨law.recordTaken_away held, rfl⟩)
  | rests outside => exact ⟨(law.away outside).atRest_law, settled⟩
  | aborts _ next => exact next.law law.cutOff_away.atRest_law
  | arms idle =>
    have outside : ¬a.InScan := by rintro (h | h) <;> cases idle.symm.trans h
    exact ⟨(law.away outside).moved .armed _ _ _ _ _ _ |>.law
      (.of_armed rfl (law.unstopped outside) (law.untriggered (.inl idle)) (law.away outside).unheld), settled⟩
  | stops inside => exact ⟨law.withFlags true _ (.of_scan inside law.holds), settled⟩
  | latches busy =>
    refine ⟨law.withFlags _ true ?_, settled⟩
    rcases busy with inside | held
    · exact .of_scan inside law.holds
    · have outside : ¬a.InScan := by rintro (h | h) <;> cases held.symm.trans h
      exact .of_holdStart held (law.unstopped outside) rfl (law.away outside).unheld
  | asksSpot noSpot next => exact next.law (law.withSpot (by simp [noSpot]) (by simp) (by simp))
  | withdrawsSpot waiting next => exact next.law (law.withSpot (by simp [waiting]) (by simp) (by simp))
  | resets =>
    exact ⟨(law_iff State.reset).2 (by decide), (settled_iff State.reset).2 (by decide)⟩

/-- Settles O60: act by act; every act that can make a request or free the unit ends with the arbiter's decision. -/
theorem spotAndScanRequestsStandWhereTheySay : Obligations.SpotAndScanRequestsStandWhereTheySay := by
  intro s t unit flags scan spot settled run
  have start : s.standing.Law ∧ s.standing.Settled :=
    ⟨(law_iff s).2 ⟨unit, flags, scan, spot⟩, (settled_iff s).2 settled⟩
  obtain ⟨law, settled⟩ := step_keeps (P := fun a => a.Law ∧ a.Settled) run start Act.law
  obtain ⟨unit, flags, scan, spot⟩ := (law_iff t).1 law
  exact ⟨unit, flags, scan, spot, (settled_iff t).1 settled⟩

end Sys2Proof.Machine
end

section
/-! SUPPORT. The commands of the scan controller (04, R70 to R73, R93 to R95): START_SINGLE, START_TIMED, ARM_TRIGGER,
STOP and ABORT. -/

namespace Sys2Proof.Machine

variable {s : State}

/-! ### The start commands' checks -/

theorem startRefusal_busy (busy : s.ctl.state ≠ .idle) : startRefusal s = some .refusedState := if_pos busy

theorem startRefusal_empty (idle : s.ctl.state = .idle) (empty : s.list.activeBank.length = 0) :
    startRefusal s = some .emptyList := by
  rw [startRefusal, if_neg (not_not.2 idle), if_pos empty]

theorem startRefusal_accepted (idle : s.ctl.state = .idle) (filled : s.list.activeBank.length ≠ 0) :
    startRefusal s = none := by
  rw [startRefusal, if_neg (not_not.2 idle), if_neg filled]

/-- A refused start command does nothing (R70). -/
theorem startCommand_refused {c : Command} (start : c = .startSingle ∨ c = .startTimed ∨ c = .armTrigger)
    {r : CmdResult} (refused : startRefusal s = some r) : runCommand c s = refuse s r 0 := by
  rcases start with rfl | rfl | rfl
  · show startSingle s = _
    rw [startSingle, refused]
  · show startTimed s = _
    rw [startTimed, refused]
  · show armTrigger s = _
    rw [armTrigger, refused]

/-- A command's start attempt with a free place (R70). -/
theorem commandAttempt_room (room : s.fifo.records.length < 32) :
    commandAttempt s = done (arbitrate s.scanStarted) 1 := by
  rw [commandAttempt, attemptStart_room s room]
  rfl

/-- A command's start attempt without one (R70). -/
theorem commandAttempt_full (full : 32 ≤ s.fifo.records.length) : commandAttempt s = done s.attempted 0 := by
  rw [commandAttempt, attemptStart_full s full]
  rfl

theorem attempted_stalled (full : ¬s.fifo.records.length < 32) (stall : s.ctl.scanCtrl.discard = false) :
    s.attempted = s.startHeld := by
  rw [State.attempted, if_neg full, if_neg (Bool.eq_false_iff.1 stall)]

theorem attempted_discarded (full : ¬s.fifo.records.length < 32) (discard : s.ctl.scanCtrl.discard = true) :
    s.attempted = s.startSkipped := by
  rw [State.attempted, if_neg full, if_pos discard]

/-- START_SINGLE on a full FIFO (R70). -/
theorem startSingle_noRoom (accepted : startRefusal s = none) (full : s.fifo.records.length = 32) :
    startSingle s = refuse s .noRoom 32 := by
  rw [startSingle, accepted]
  exact if_pos full

/-- START_SINGLE with a free place starts its scan (R71). -/
theorem startSingle_room (accepted : startRefusal s = none) (room : s.fifo.records.length < 32) :
    startSingle s = done (arbitrate (s.runBegun .single 1).scanStarted) 1 := by
  have notFull : ¬s.fifo.count = Config.fifoCapacity := Nat.ne_of_lt room
  rw [startSingle, accepted]
  exact (if_neg notFull).trans (commandAttempt_room (s := s.runBegun .single 1) room)

/-- An accepted START_TIMED before its start attempt (R72, R175). -/
def State.timedBegun (s : State) : State :=
  { s.runBegun .timed s.ctl.scanCount.toNat with
    time := { s.time with timerRunning := true, prescaler := 0, timerRemaining := s.time.scanInterval.toNat } }

theorem startTimed_accepted (accepted : startRefusal s = none) : startTimed s = commandAttempt s.timedBegun := by
  rw [startTimed, accepted]
  rfl

/-- A command's row, where the command's answer is known (R190). -/
theorem commandRow_answer (c : Command) (writing : WritingAt 0x00#7 s) {x : Answer} (run : runCommand c s = x) :
    (.next (commandRow c (runCommand c) s) : Host.Outcome State Fault Refusal) =
      .next (x.state.answered c.code x.result x.detail) := by
  rw [commandRow_taken c s writing, run]

/-- Settles O15: the refusal of each start command, and START_SINGLE's own. -/
theorem startCommandsRefuse : Obligations.StartCommandsRefuse := by
  intro s writing p member
  have refuses : ∀ c : Command, c = .startSingle ∨ c = .startTimed ∨ c = .armTrigger → ∀ i,
      (∀ s, exec i s = .next (commandRow c (runCommand c) s)) →
      (s.ctl.state ≠ .idle → exec i s = .next (s.answered c.code .refusedState 0)) ∧
      (s.ctl.state = .idle → s.list.activeBank.length = 0 → exec i s = .next (s.answered c.code .emptyList 0)) := by
    intro c start i row
    rw [row]
    exact ⟨fun busy => commandRow_answer c writing (startCommand_refused start (startRefusal_busy busy)),
      fun idle empty => commandRow_answer c writing (startCommand_refused start (startRefusal_empty idle empty))⟩
  simp only [List.mem_cons, List.not_mem_nil, or_false] at member
  rcases member with rfl | rfl | rfl
  · obtain ⟨busy, empty⟩ := refuses .startSingle (.inl rfl) .startSingle fun _ => rfl
    refine ⟨busy, empty, fun idle filled full _ => ?_⟩
    exact commandRow_answer .startSingle writing (startSingle_noRoom (startRefusal_accepted idle filled) full)
  · obtain ⟨busy, empty⟩ := refuses .startTimed (.inr (.inl rfl)) .startTimed fun _ => rfl
    exact ⟨busy, empty, nofun⟩
  · obtain ⟨busy, empty⟩ := refuses .armTrigger (.inr (.inr rfl)) .armTrigger fun _ => rfl
    exact ⟨busy, empty, nofun⟩

/-- Settles O16. -/
theorem armTriggerArms : Obligations.ArmTriggerArms := by
  intro s writing idle filled
  refine commandRow_answer .armTrigger writing (x := done _ 0) ?_
  show armTrigger s = _
  rw [armTrigger, startRefusal_accepted idle filled]

/-- Settles O14: by what the first start attempt finds. -/
theorem startTimedStartsTimerAndScan : Obligations.StartTimedStartsTimerAndScan := by
  intro s writing idle filled
  have accepted := startRefusal_accepted idle filled
  have full : ∀ (noRoom : ¬s.fifo.records.length < 32) {t}, s.timedBegun.attempted = t →
      exec .startTimed s = .next (t.answered 0x02#8 .done 0) := fun noRoom _ attempted =>
    attempted ▸ commandRow_answer .startTimed writing
      ((startTimed_accepted accepted).trans (commandAttempt_full (Nat.not_lt.1 noRoom)))
  refine ⟨fun room => ⟨_, rfl, ?_⟩, fun noRoom stall => full noRoom (attempted_stalled noRoom stall),
    fun noRoom discard => full noRoom (attempted_discarded noRoom discard)⟩
  exact commandRow_answer .startTimed writing
    ((startTimed_accepted accepted).trans (commandAttempt_room (s := s.timedBegun) room))

/-! ### The run of START_SINGLE -/

/-- A run of one scan with the given sequence number (R71, R76). -/
def State.SingleRun (s : State) (seq : BitVec 16) : Prop := s.ctl.mode = .single ∧ s.ctl.seq = seq

section
variable {seq : BitVec 16}

theorem handleRecord_singleRun (r : MeasRecord) (h : s.SingleRun seq) : (handleRecord r s).1.SingleRun seq := by
  have after : ∀ u : State, u.SingleRun seq → (afterRecord r u).1.SingleRun seq := by
    intro u h
    rcases afterRecord_cases r u with ⟨-, -, e⟩ | ⟨i, -, -, e⟩ | ⟨-, e⟩ <;> rw [e] <;> exact h
  have offered : (offerAndFlag r s).SingleRun seq := by rwa [State.SingleRun, offerAndFlag_ctl]
  rcases handleRecord_cases r s with ⟨-, e⟩ | ⟨-, -, e⟩ | ⟨-, -, e⟩ <;> rw [e]
  · exact after _ (by simpa [State.SingleRun, tally] using offered)
  · exact after _ offered
  · exact offered

theorem endScan_singleRun (t : Termination) (h : s.SingleRun seq) :
    (endScan t s).1.SingleRun seq ∧ (endScan t s).2 = false := by
  obtain ⟨mode, number⟩ := h
  rcases endScan_cases t s with ⟨-, e⟩ | ⟨goesOn, -⟩
  · rw [e]
    exact ⟨by simp [State.SingleRun, enterIdle, mode, number], rfl⟩
  · simp [runEnds, mode] at goesOn

/-- The one scan of the run is followed by no other (R89). -/
theorem singleRun_walkKeeps (seq : BitVec 16) : WalkKeeps (State.SingleRun · seq) where
  request s _ enabled h := by
    rcases reachEntry_cases s with ⟨-, e⟩ | ⟨disabled, -⟩
    · rw [e]
      exact h
    · cases enabled.symm.trans disabled
  moves r _ _ h _ _ := handleRecord_singleRun r h
  ends r _ t _ h _ _ := (endScan_singleRun t (handleRecord_singleRun r h)).1
  restarts r _ t _ h _ latched := by
    cases (endScan_singleRun t (handleRecord_singleRun r h)).2.symm.trans latched

theorem arbitrate_singleRun (h : s.SingleRun seq) : (arbitrate s).SingleRun seq := by
  have granted : ∀ (u : State) who q, u.SingleRun seq → (grantUnit who q (takeGrant who u)).1.SingleRun seq := by
    intro u who q h
    obtain ⟨⟨g, ctl⟩, -⟩ := grantUnit_ctl who q u
    rwa [State.SingleRun, ctl]
  refine arbitrate_keeps (fun u who q _ _ _ h => granted u who q h) (fun u who q _ _ _ h => ?_) s h
  have parked : (parkUnit (grantUnit who q (takeGrant who u)).1).SingleRun seq := granted u who q h
  cases who with
  | spot => exact parked
  | scan =>
    show State.SingleRun (takeScanResult _ _) seq
    unfold takeScanResult
    split
    · next scanning => exact continueWalk_handled_keeps (singleRun_walkKeeps seq) _ _ scanning parked
    · exact parked

end

/-- Settles O13: the accepted command's attempt starts the scan, and the run keeps its mode and number through the walk
and the grants. -/
theorem startSingleStartsItsScan : Obligations.StartSingleStartsItsScan := by
  intro s writing idle filled room
  have begun : (startScan (claimSwap (s.runBegun .single 1))).SingleRun (s.ctl.seq + 1) := ⟨rfl, rfl⟩
  have started : (s.runBegun .single 1).scanStarted.SingleRun (s.ctl.seq + 1) :=
    continueWalk_started_keeps (singleRun_walkKeeps _) _ rfl rfl begun
  obtain ⟨mode, seq⟩ := arbitrate_singleRun started
  refine ⟨_, rfl, ?_, mode, seq⟩
  exact commandRow_answer .startSingle writing (startSingle_room (startRefusal_accepted idle filled) room)

/-! ### STOP and ABORT -/

/-- Settles O17: by the controller's state. -/
theorem stopActsByState : Obligations.StopActsByState := by
  intro s writing
  have answers : ∀ {x : Answer}, stopRun s = x →
      exec .stop s = .next (x.state.answered 0x04#8 x.result x.detail) := commandRow_answer .stop writing
  refine ⟨fun idle => answers (x := done s 0) ?_, fun waits => answers (x := done s.atRest 0) ?_,
    fun scan => answers (x := done { s with ctl := { s.ctl with stopRequested := true } } 1) ?_⟩
  · rw [stopRun, idle]
  · rcases waits with state | state <;> rw [stopRun, state] <;> rfl
  · rcases scan with state | state <;> rw [stopRun, state]

/-- A scan is cut off, in the words of the statements (R95). -/
theorem cutOffScan_eq (s : State) :
    cutOffScan s =
      if s.conv.owner = some .scan then
        { s with ctl := { s.ctl with grantOutstanding := false, held := none },
                 arb := { s.arb with scanReq := none } }.unitReleased
      else { s with ctl := { s.ctl with grantOutstanding := false, held := none },
                    arb := { s.arb with scanReq := none } } := rfl

/-- Settles O18: by the controller's state; the scan cut off is closed and left as in the statements. -/
theorem abortActsByState : Obligations.AbortActsByState := by
  intro s writing
  have answers : ∀ {x : Answer}, abortRun s = x →
      exec .abort s = .next (x.state.answered 0x05#8 x.result x.detail) := commandRow_answer .abort writing
  refine ⟨fun idle => answers (x := done s 0) ?_, fun waits => answers (x := done s.atRest 0) ?_,
    fun scan => ⟨_, rfl, answers (x := done (arbitrate _) 1) ?_⟩⟩
  · rw [abortRun, idle]
  · rcases waits with state | state <;> rw [abortRun, state] <;> rfl
  · rw [← cutOffScan_eq, ← closeScan_eq, ← enterIdle_eq]
    rcases scan with state | state <;> rw [abortRun, state]

end Sys2Proof.Machine
end

section
/-! SUPPORT. Triggers, waiting starts and held records (04, R77, R83, R89 to R91; 09, R174, R176, R179). -/

namespace Sys2Proof.Machine

variable {s : State}

/-! ### Triggers -/

/-- A trigger in ARMED with a free place starts a scan (R90). -/
theorem takeTrigger_room (armed : s.ctl.state = .armed) (room : s.fifo.records.length < 32) :
    takeTrigger s = arbitrate s.scanStarted := by
  rw [takeTrigger, armed]
  exact congrArg Prod.fst (attemptStart_room s room)

/-- A row whose command is a trigger, in the words of the statements (R90, R91). -/
theorem next_takeTrigger {o : Host.Outcome State Fault Refusal} (taken : o = .next (takeTrigger s)) :
    (s.ctl.state = .armed → s.fifo.records.length < 32 →
      ∃ u, exec .grant s.scanStarted = .next u ∧ o = .next u) ∧
    (s.ctl.state ≠ .armed ∨ 32 ≤ s.fifo.records.length → o = .next s.triggerTaken) :=
  ⟨fun armed room => ⟨_, rfl, takeTrigger_room armed room ▸ taken⟩, fun waits => takeTrigger_eq s waits ▸ taken⟩

/-- A level on TRIG in reset (R194; log 14). -/
theorem trigChanges_inReset {high : Bool} (change : s.pins.trigHigh ≠ high) (reset : ¬Released s) :
    trigChanges high s = { s with pins := { s.pins with trigHigh := high } } := by
  rw [trigChanges, if_neg change]
  exact if_pos ((inReset_eq_true _).2 reset)

/-- A change of TRIG that the detector sees (R179). -/
theorem trigChanges_released {high : Bool} (change : s.pins.trigHigh ≠ high) (released : Released s) :
    trigChanges high s = deliverEdge high
      { s with pins := { s.pins with trigHigh := high }, time := { s.time with trigLevel := high } } := by
  rw [trigChanges, if_neg change]
  exact if_neg fun reset => (inReset_eq_true _).1 reset released

/-- An edge is a trigger in TRIGGERED mode with the snapshot's polarity, and else nothing (R90, R179). -/
theorem deliverEdge_eq (high : Bool) (s : State) :
    deliverEdge high s =
      if s.ctl.mode = .triggered ∧ s.ctl.snapshot.falling = !high then takeTrigger s else s := by
  have same : (s.edgeDelivered high && s.ctl.mode == .triggered) = true ↔
      s.ctl.mode = .triggered ∧ s.ctl.snapshot.falling = !high := by
    simp only [State.edgeDelivered, Bool.and_eq_true, bne_iff_ne, ne_eq, beq_iff_eq, Bool.eq_not]
    exact and_comm
  simp only [deliverEdge, same]

/-- Settles O37: by the pin, the reset, the mode and the polarity. -/
theorem trigEdgeTriggers : Obligations.TrigEdgeTriggers := by
  intro s high
  refine ⟨fun same => congrArg Host.Outcome.next (if_pos same),
    fun change reset => congrArg Host.Outcome.next (trigChanges_inReset change reset), fun change released => ?_⟩
  intro seen
  have sees : exec (.trigEdge high) s = .next (deliverEdge high seen) :=
    congrArg Host.Outcome.next (trigChanges_released change released)
  rw [deliverEdge_eq] at sees
  refine ⟨fun mode polarity => ?_, fun other => sees.trans (congrArg Host.Outcome.next (if_neg other))⟩
  exact next_takeTrigger (s := seen) (sees.trans (congrArg Host.Outcome.next (if_pos ⟨mode, polarity⟩)))

/-! ### The scan timer -/

theorem lfBoundary_counted (running : s.time.timerRunning = true) (within : s.time.prescaler + 1 < 32) :
    s.time.lfBoundary = .counted := by
  simp [TimeBase.lfBoundary, running, within]

theorem lfBoundary_unitEnd (running : s.time.timerRunning = true) (unit : 32 ≤ s.time.prescaler + 1)
    (more : 1 < s.time.timerRemaining) : s.time.lfBoundary = .unitEnd := by
  simp [TimeBase.lfBoundary, running, Nat.not_lt.2 unit, more]

theorem lfBoundary_expiry (running : s.time.timerRunning = true) (unit : 32 ≤ s.time.prescaler + 1)
    (last : s.time.timerRemaining ≤ 1) : s.time.lfBoundary = .expiry := by
  simp [TimeBase.lfBoundary, running, Nat.not_lt.2 unit, Nat.not_lt.2 last]

/-- Settles O38: by the timer, and at its expiry by the mode. -/
theorem scanTimerCountsAndExpires : Obligations.ScanTimerCountsAndExpires := by
  intro s
  refine ⟨fun stopped => ?_, fun running within => ?_, fun running unit more c row => ?_,
    fun running unit last c row => ?_⟩
  · have ignored : s.time.lfBoundary = .ignored := by simp [TimeBase.lfBoundary, stopped]
    show Host.Outcome.next (takeLfBoundary s.time.lfBoundary s) = _
    rw [ignored]
    rfl
  · show Host.Outcome.next (takeLfBoundary s.time.lfBoundary s) = _
    rw [lfBoundary_counted running within]
    rfl
  · have next := lfBoundary_unitEnd running unit more
    have taken : exec c s = .next (takeLfBoundary .unitEnd s) := by
      simp only [List.mem_cons, List.not_mem_nil, or_false] at row
      rcases row with rfl | rfl <;> simp [exec, execLfPeriodBoundary, execScanTimerUnit, unitRow, lfRow, next]
    exact taken
  · have next := lfBoundary_expiry running unit last
    have taken : exec c s = .next (timerExpires s) := by
      simp only [List.mem_cons, List.not_mem_nil, or_false] at row
      rcases row with rfl | rfl | rfl <;>
        simp [exec, execLfPeriodBoundary, execScanTimerUnit, execScanTimerExpiry, unitRow, lfRow, next, takeLfBoundary]
    exact ⟨fun mode => next_takeTrigger (taken.trans (congrArg Host.Outcome.next (if_pos mode))),
      fun other => taken.trans (congrArg Host.Outcome.next (if_neg other))⟩

/-! ### Waiting starts and held records -/

/-- Settles O48: the record leaves the controller where the FIFO has a place. -/
theorem heldRecordIsOfferedAgain : Obligations.HeldRecordIsOfferedAgain := by
  intro m s state held
  have row : exec .heldRecordReoffer s = .next (reofferRecord s) := congrArg Host.Outcome.next (if_pos state)
  exact ⟨fun place => ⟨_, rfl, row.trans (congrArg Host.Outcome.next (reofferRecord_placed held place))⟩,
    fun full => row.trans (congrArg Host.Outcome.next (reofferRecord_unplaced full))⟩

/-- Settles O49: the attempt of a held start, and of a latched trigger. -/
theorem waitingTriggersStartScans : Obligations.WaitingTriggersStartScans := by
  intro s
  have latched : s.ctl.state = .armed → s.ctl.pendingTrigger = true →
      exec .pendingTriggerStart s = .next (attemptStart s).1 := fun armed latched =>
    congrArg Host.Outcome.next (if_pos ⟨armed, latched⟩)
  refine ⟨fun held room => ⟨_, rfl, ?_⟩, fun _ full => ?_, fun armed trigger room => ⟨_, rfl, ?_⟩,
    fun armed trigger full => ?_⟩
  · have retried : exec .heldStartRetry s = .next (attemptStart s).1 :=
      congrArg Host.Outcome.next (if_pos ⟨held, room⟩)
    rw [retried, attemptStart_room s room]
  · exact congrArg Host.Outcome.next (if_neg fun ⟨_, room⟩ => absurd room (Nat.not_lt.2 full))
  · rw [latched armed trigger, attemptStart_room s room]
  · rw [latched armed trigger, attemptStart_full s full]

end Sys2Proof.Machine
end

section
/-! SUPPORT. A run of START_SINGLE over disabled channels alone (R76 to R89): entry by entry, then its end or the hold
of its last record. -/

namespace Sys2Proof.Machine

variable {s u : State}

/-! ### Moves of the walk that are not faults -/

theorem recordOffered_placed (r : MeasRecord) (place : s.fifo.records.length + s.fifo.reserved.toNat ≤ 31) :
    s.recordOffered r = ((s.appended (.measurement r)).counted r false).walkedOn r := if_pos place

theorem recordOffered_dropped (r : MeasRecord) (full : ¬s.fifo.records.length + s.fifo.reserved.toNat ≤ 31)
    (discard : s.ctl.snapshot.discard = true) : s.recordOffered r = (s.counted r true).walkedOn r := by
  rw [State.recordOffered, if_neg full, if_pos discard]

/-- A record without a fault moves the walk to the next entry inside the list (R86, R87). -/
theorem walkedOn_next {r : MeasRecord} (noFault : r.status.isFault = false) {i : Fin 32}
    (next : i.val = s.ctl.entryIndex.val + 1) (inside : i.val < s.list.activeBank.length.val) :
    s.walkedOn r = reachOn { s with ctl := { s.ctl with entryIndex := i } } := by
  rw [← afterRecord_eq]
  rcases afterRecord_cases r s with ⟨-, fault, -⟩ | ⟨j, same, -, e⟩ | ⟨last, -⟩
  · cases noFault.symm.trans fault
  · obtain rfl : i = j := Fin.ext (next.trans same.symm)
    rw [e]
    rfl
  · exact absurd (next ▸ inside) last

/-- On the last entry it ends the scan COMPLETE (R87). -/
theorem walkedOn_last {r : MeasRecord} (noFault : r.status.isFault = false)
    (last : ¬s.ctl.entryIndex.val + 1 < s.list.activeBank.length.val) : s.walkedOn r = s.scanEnded .complete := by
  rw [← afterRecord_eq]
  rcases afterRecord_cases r s with ⟨-, fault, -⟩ | ⟨j, same, inside, -⟩ | ⟨-, e⟩
  · cases noFault.symm.trans fault
  · exact absurd (same ▸ inside) last
  · rw [e, endScan_eq]

/-- The scan of a run of one is its last (R89). -/
theorem scanEnded_single (t : Termination) (single : s.ctl.mode = .single) : s.scanEnded t = (s.scanClosed t).atRest :=
  if_pos (.inr (.inl single))

/-! ### The entries of a run over disabled channels -/

/-- The record of the disabled channel at an entry, in the scan that comes next. -/
def State.nextRecord (s : State) (i : Fin 32) : MeasRecord :=
  State.disabledRecord { s with ctl := { s.ctl with entryIndex := i, seq := s.ctl.seq + 1 } }

/-- The records of the first entries. -/
def State.nextRecords (s : State) (n : Nat) : List FifoRecord :=
  ((List.finRange 32).take n).map fun i => .measurement (s.nextRecord i)

theorem nextRecords_succ (s : State) (i : Fin 32) :
    s.nextRecords (i.val + 1) = s.nextRecords i.val ++ [.measurement (s.nextRecord i)] := by
  simp [State.nextRecords, List.take_add_one]

theorem length_nextRecords (s : State) {n : Nat} (h : n ≤ 32) : (s.nextRecords n).length = n := by
  simp [State.nextRecords, h]

/-- START_SINGLE's scan stands at an entry, and every entry before it has been recorded, its channel disabled. -/
structure RecordedUpTo (s : State) (i : Fin 32) (u : State) : Prop where
  mode : u.ctl.mode = .single
  entry : u.ctl.entryIndex = i
  seq : u.ctl.seq = s.ctl.seq + 1
  measured : u.ctl.measured = i.val
  faults : u.ctl.faults = 0
  discarded : u.ctl.discarded = 0
  skips : u.ctl.skipTally = s.ctl.skipTally
  policy : u.ctl.snapshot.discard = s.ctl.scanCtrl.discard
  channels : u.channels = s.channels
  list : u.list = s.list
  reserved : u.fifo.reserved = true
  records : u.fifo.records = s.fifo.records ++ s.nextRecords i.val

/-- The state after START_SINGLE's scan start, at entry 0 (R71, R76). -/
theorem recordedUpTo_zero (clear : s.list.pendingFlag = false) :
    RecordedUpTo s 0 (startScan (claimSwap (s.runBegun .single 1))) where
  mode := rfl
  entry := rfl
  seq := rfl
  measured := rfl
  faults := rfl
  discarded := rfl
  skips := rfl
  policy := rfl
  channels := rfl
  list := ScanList.claimSwap_clear clear
  reserved := rfl
  records := (List.append_nil _).symm

namespace RecordedUpTo

variable {i : Fin 32} (h : RecordedUpTo s i u)
include h

theorem entryInHand_eq : u.entryInHand = s.list.activeBank.entries[i] := by
  simp only [State.entryInHand, h.list, h.entry]

theorem record_eq : u.disabledRecord = s.nextRecord i := by
  simp only [State.disabledRecord, State.measurement, h.entryInHand_eq, h.entry, h.seq]
  rfl

theorem taken : u.fifo.records.length + u.fifo.reserved.toNat = s.fifo.records.length + i.val + 1 := by
  rw [h.records, h.reserved, List.length_append, length_nextRecords s (Nat.le_of_lt i.isLt)]
  rfl

theorem reachOn_eq (disabled : s.channels[s.list.activeBank.entries[i].channel].enabled = false) :
    reachOn u = u.recordOffered (s.nextRecord i) := by
  rw [reachOn_disabled, h.record_eq]
  simpa only [h.entryInHand_eq, h.channels] using disabled

/-- The entry in hand is recorded where the FIFO has a place, and the next is reached (R82, R87). -/
theorem next {j : Fin 32} (next : j.val = i.val + 1) (inside : j.val < s.list.activeBank.length.val)
    (place : s.fifo.records.length + j.val ≤ 31)
    (disabled : s.channels[s.list.activeBank.entries[i].channel].enabled = false) :
    ∃ v, RecordedUpTo s j v ∧ reachOn u = reachOn v := by
  have room : u.fifo.records.length + u.fifo.reserved.toNat ≤ 31 := by rw [h.taken]; omega
  refine ⟨_, ?_, (h.reachOn_eq disabled).trans ((recordOffered_placed _ room).trans
    (walkedOn_next (i := j) rfl (next.trans (congrArg (·.val + 1) h.entry.symm)) ?_))⟩
  · exact {
      mode := h.mode, entry := rfl, seq := h.seq, measured := (congrArg (· + 1) h.measured).trans next.symm
      faults := h.faults, discarded := h.discarded, skips := h.skips, policy := h.policy, channels := h.channels
      list := h.list, reserved := h.reserved
      records := by
        show u.fifo.records ++ [.measurement (s.nextRecord i)] = _
        rw [h.records, next, nextRecords_succ, List.append_assoc] }
  · show j.val < u.list.activeBank.length.val
    rwa [h.list]

end RecordedUpTo

/-- Every channel that the active bank names is disabled. -/
abbrev State.AllDisabled (s : State) : Prop :=
  ∀ i : Fin 32, i.val < s.list.activeBank.length.val →
    s.channels[s.list.activeBank.entries[i].channel].enabled = false

/-- The walk comes to every entry that the records before it leave a place for. -/
theorem reaches_entry (clear : s.list.pendingFlag = false) (disabled : s.AllDisabled) (i : Fin 32)
    (inside : i.val < s.list.activeBank.length.val) (place : s.fifo.records.length + i.val ≤ 31) :
    ∃ u, RecordedUpTo s i u ∧ (s.runBegun .single 1).scanStarted = reachOn u := by
  obtain ⟨n, bound⟩ := i
  induction n with
  | zero => exact ⟨_, recordedUpTo_zero clear, rfl⟩
  | succ n ih =>
    have within : n < s.list.activeBank.length.val := Nat.lt_of_succ_lt inside
    obtain ⟨u, stands, same⟩ := ih (Nat.lt_of_succ_lt bound) within (Nat.le_of_succ_le place)
    obtain ⟨v, stands', same'⟩ := stands.next (j := ⟨n + 1, bound⟩) rfl inside place (disabled _ within)
    exact ⟨v, stands', same.trans same'⟩

/-! ### The end of the run -/

/-- The arbiter's decision outside SCANNING leaves the FIFO, and of the controller all but grant outstanding. -/
structure SameScan (s u : State) : Prop where
  state : u.ctl.state = s.ctl.state
  held : u.ctl.held = s.ctl.held
  measured : u.ctl.measured = s.ctl.measured
  fifo : u.fifo = s.fifo

theorem arbitrate_sameScan (s : State) (outside : s.ctl.state ≠ .scanning) : SameScan s (arbitrate s) := by
  have granted : ∀ (u : State) who q, SameScan s u → SameScan s (grantUnit who q (takeGrant who u)).1 := by
    intro u who q h
    obtain ⟨⟨g, ctl⟩, fifo⟩ := grantUnit_ctl who q u
    exact ⟨ctl ▸ h.state, ctl ▸ h.held, ctl ▸ h.measured, fifo.trans h.fifo⟩
  refine arbitrate_keeps (P := SameScan s) (fun u who q _ _ _ h => granted u who q h) (fun u who q _ _ _ h => ?_) s
    ⟨rfl, rfl, rfl, rfl⟩
  obtain ⟨state, held, measured, fifo⟩ := granted u who q h
  cases who with
  | spot => exact ⟨state, held, measured, fifo⟩
  | scan =>
    have elsewhere : (parkUnit (grantUnit .scan q (takeGrant .scan u)).1).ctl.state ≠ .scanning :=
      fun scanning => outside (state.symm.trans scanning)
    show SameScan s (takeScanResult _ _)
    rw [takeScanResult, if_neg elsewhere]
    exact ⟨state, held, measured, fifo⟩

/-- The SCAN_END record of a run over `n` disabled channels (R88). -/
def State.nextScanEnd (s : State) (n dropped : Nat) : FifoRecord :=
  .scanEnd { termination := .complete, seq := s.ctl.seq + 1, measured := n, faults := 0, discarded := dropped,
             skipped := s.ctl.skipTally }

/-- What START_SINGLE over `n` disabled channels leaves in IDLE: `kept` of their records in the FIFO, the rest dropped,
and the SCAN_END record (R88, R89). -/
structure State.RunOver (s : State) (n kept : Nat) (t : State) : Prop where
  state : t.ctl.state = .idle
  reserved : t.fifo.reserved = false
  records : t.fifo.records = s.fifo.records ++ s.nextRecords kept ++ [s.nextScanEnd n (n - kept)]

/-- What it leaves where the last of 32 records is held (R82). -/
structure State.LastHeld (s : State) (t : State) : Prop where
  state : t.ctl.state = .holdRecord
  held : t.ctl.held = some (s.nextRecord 31)
  measured : t.ctl.measured = 31
  reserved : t.fifo.reserved = true
  records : t.fifo.records = s.fifo.records ++ s.nextRecords 31

theorem State.RunOver.arbitrate {n kept : Nat} (h : s.RunOver n kept u) : s.RunOver n kept (arbitrate u) := by
  obtain ⟨state, -, -, fifo⟩ := arbitrate_sameScan u (by simp [h.state])
  exact ⟨state.trans h.state, fifo ▸ h.reserved, fifo ▸ h.records⟩

theorem State.LastHeld.arbitrate (h : s.LastHeld u) : s.LastHeld (arbitrate u) := by
  obtain ⟨state, held, measured, fifo⟩ := arbitrate_sameScan u (by simp [h.state])
  exact ⟨state.trans h.state, held.trans h.held, measured.trans h.measured, fifo ▸ h.reserved, fifo ▸ h.records⟩

namespace RecordedUpTo

variable {i : Fin 32} (h : RecordedUpTo s i u) (last : ¬i.val + 1 < s.list.activeBank.length.val)
include h last

/-- The last entry's record has been counted, and the run ends in IDLE (R88, R89). -/
theorem run_ends {v : State} (dropped : Bool) (kept : Nat) (split : i.val + 1 - kept = dropped.toNat)
    (ctl : v.ctl = u.ctl) (list : v.list = u.list) (records : v.fifo.records = s.fifo.records ++ s.nextRecords kept) :
    s.RunOver (i.val + 1) kept ((v.counted (s.nextRecord i) dropped).walkedOn (s.nextRecord i)) := by
  have stays : ¬(v.counted (s.nextRecord i) dropped).ctl.entryIndex.val + 1 <
      (v.counted (s.nextRecord i) dropped).list.activeBank.length.val := by
    show ¬v.ctl.entryIndex.val + 1 < v.list.activeBank.length.val
    rwa [ctl, list, h.entry, h.list]
  have single : (v.counted (s.nextRecord i) dropped).ctl.mode = .single :=
    (congrArg Controller.mode ctl).trans h.mode
  rw [walkedOn_last rfl stays, scanEnded_single _ single]
  refine ⟨rfl, rfl, ?_⟩
  show v.fifo.records ++ [_] = _
  rw [records, State.nextScanEnd, split]
  refine congrArg (fun r => s.fifo.records ++ s.nextRecords kept ++ [FifoRecord.scanEnd r]) ?_
  cases dropped <;>
    simp [State.counted, State.nextRecord, State.disabledRecord, State.measurement, Status.code, ctl, h.seq, h.measured,
      h.faults, h.discarded, h.skips]

variable (disabled : s.channels[s.list.activeBank.entries[i].channel].enabled = false)
include disabled

/-- With a place for the last record all are in the FIFO (R82). -/
theorem ends_placed (place : s.fifo.records.length + (i.val + 1) ≤ 31) :
    s.RunOver (i.val + 1) (i.val + 1) (reachOn u) := by
  have room : u.fifo.records.length + u.fifo.reserved.toNat ≤ 31 := h.taken ▸ place
  rw [h.reachOn_eq disabled, recordOffered_placed _ room]
  refine h.run_ends last false _ (Nat.sub_self _) rfl rfl ?_
  show u.fifo.records ++ [.measurement (s.nextRecord i)] = _
  rw [h.records, nextRecords_succ, List.append_assoc]

/-- Without one the last is dropped under DISCARD (R84). -/
theorem ends_dropped (full : 31 < s.fifo.records.length + (i.val + 1)) (discard : s.ctl.scanCtrl.discard = true) :
    s.RunOver (i.val + 1) i.val (reachOn u) := by
  have noRoom : ¬u.fifo.records.length + u.fifo.reserved.toNat ≤ 31 := Nat.not_le.2 (h.taken ▸ full)
  rw [h.reachOn_eq disabled, recordOffered_dropped _ noRoom (h.policy.trans discard)]
  exact h.run_ends last true _ (Nat.add_sub_cancel_left ..) rfl rfl h.records

omit last in
/-- And held under STALL (R82). -/
theorem holds_last (full : 31 < s.fifo.records.length + (i.val + 1)) (stall : s.ctl.scanCtrl.discard = false)
    (entry : i = 31) : s.LastHeld (reachOn u) := by
  have noRoom : ¬u.fifo.records.length + u.fifo.reserved.toNat ≤ 31 := Nat.not_le.2 (h.taken ▸ full)
  have policy : ¬u.ctl.snapshot.discard = true := Bool.eq_false_iff.1 (h.policy.trans stall)
  subst entry
  rw [h.reachOn_eq disabled, State.recordOffered, if_neg noRoom, if_neg policy]
  exact ⟨rfl, rfl, h.measured, h.reserved, h.records⟩

end RecordedUpTo

section
variable (clear : s.list.pendingFlag = false) (disabled : s.AllDisabled)
include clear disabled

/-- Where all the records and the reserved place fit, the run is complete in the step of its start. -/
theorem scanStarted_fits {n : Nat} (length : s.list.activeBank.length.val = n + 1)
    (fits : s.fifo.records.length + (n + 1) ≤ 31) :
    s.RunOver (n + 1) (n + 1) (s.runBegun .single 1).scanStarted := by
  have inside : n < s.list.activeBank.length.val := length ▸ Nat.lt_succ_self n
  obtain ⟨u, stands, same⟩ := reaches_entry clear disabled ⟨n, by omega⟩ inside (Nat.le_of_succ_le fits)
  rw [same]
  exact stands.ends_placed (length ▸ Nat.lt_irrefl _) (disabled _ inside) fits

variable (empty : s.fifo.records = []) (full : s.list.activeBank.length.val = 32)
include empty full

/-- A list of 32 on an empty FIFO leaves no place for its last record. -/
theorem scanStarted_crowded :
    (s.ctl.scanCtrl.discard = false → s.LastHeld (s.runBegun .single 1).scanStarted) ∧
    (s.ctl.scanCtrl.discard = true → s.RunOver 32 31 (s.runBegun .single 1).scanStarted) := by
  have inside : (31 : Fin 32).val < s.list.activeBank.length.val := by rw [full]; decide
  have last : ¬(31 : Fin 32).val + 1 < s.list.activeBank.length.val := by rw [full]; decide
  have crowded : 31 < s.fifo.records.length + ((31 : Fin 32).val + 1) := by rw [empty]; decide
  obtain ⟨u, stands, same⟩ := reaches_entry clear disabled 31 inside (by rw [empty]; decide)
  rw [same]
  exact ⟨fun stall => stands.holds_last (disabled _ inside) crowded stall rfl,
    fun discard => stands.ends_dropped last (disabled _ inside) crowded discard⟩

end

/-- Settles O50: an entry reached, and the run of START_SINGLE, which comes to its last entry and then ends as the FIFO
and the policy have it. -/
theorem disabledEntriesAreRecordedAtOnce : Obligations.DisabledEntriesAreRecordedAtOnce := by
  refine ⟨fun s => reachOn_enabled, fun s => reachOn_disabled, ?_⟩
  intro s writing idle clear filled disabled record records scanEnd
  refine ⟨_, congrArg Host.Outcome.next (commandRow_taken .startSingle s writing), ?_⟩
  have answered (room : s.fifo.records.length < 32) :
      runCommand .startSingle s = done (arbitrate (s.runBegun .single 1).scanStarted) 1 :=
    startSingle_room (startRefusal_accepted idle filled) room
  refine ⟨fun fits => ?_, fun empty full stall => ?_, fun empty full discard => ?_⟩
  · obtain ⟨n, length⟩ := Nat.exists_eq_add_one_of_ne_zero fun zero => filled (Fin.ext zero)
    rw [length] at fits ⊢
    obtain ⟨state, reserved, all⟩ := (scanStarted_fits clear disabled length fits).arbitrate
    have port : (arbitrate (s.runBegun .single 1).scanStarted).port = s.port :=
      ((reachOn_frame _).outer.trans (arbitrate_frame _)).port
    rw [Nat.sub_self] at all
    rw [answered (by omega)]
    exact ⟨congrArg (fun p : HostPort =>
      { p with pointer := 0x01#7, cmd := 0x01#8, cmdResult := .done, cmdDetail := 1 }) port, state, reserved, all⟩
  · obtain ⟨state, held, measured, reserved, kept⟩ :=
      ((scanStarted_crowded clear disabled empty full).1 stall).arbitrate
    rw [empty] at kept
    rw [answered (by rw [empty]; decide)]
    exact ⟨state, held, measured, reserved, kept⟩
  · obtain ⟨state, reserved, kept⟩ := ((scanStarted_crowded clear disabled empty full).2 discard).arbitrate
    rw [empty] at kept
    rw [answered (by rw [empty]; decide)]
    exact ⟨state, reserved, kept⟩

end Sys2Proof.Machine
end

section
/-! SUPPORT. The commands of the spot port (05, R104, R105, R107): SPOT and CANCEL_SPOT. -/

namespace Sys2Proof.Machine

variable {s : State} {q : Request}

/-! ### SPOT's arguments -/

/-- SPOT's checks in order (R104). -/
theorem parseSpot_refuses (s : State) :
    Refuses 0 [(s.p 0).toNat < 16, (s.p 1).toNat < 4, (s.p 2).toNat < 13, (s.p 3).toNat < 4, (s.p 4).toNat ≤ 1]
      (parseSpot s) :=
  .checked indexArg_eq_none fun _ => .checked indexArg_eq_none fun _ => .checked indexArg_eq_none fun _ =>
    .checked indexArg_eq_none fun _ => .checked boolArg_eq_none fun _ => .nil

/-- SPOT takes a request whose fields stand in PARAM (R104). -/
theorem parseSpot_ok (channel : q.channel.val = (s.p 0).toNat) (reference : q.reference.val = (s.p 1).toNat)
    (target : q.target.val = (s.p 2).toNat) (repeatCode : q.repeatCode.val = (s.p 3).toNat)
    (fresh : q.fresh.toNat = (s.p 4).toNat) : parseSpot s = .ok q := by
  rw [parseSpot, indexArg_some channel, indexArg_some reference, indexArg_some target, indexArg_some repeatCode,
    boolArg_some fresh]
  rfl

/-! ### SPOT -/

/-- An accepted SPOT before the arbiter's decision (R105). -/
def State.spotAsked (s : State) (q : Request) : State :=
  { s with spot := { s.spot with request := q, state := .waiting }, arb := { s.arb with spotReq := some q } }

theorem acceptSpot_eq (q : Request) (s : State) :
    acceptSpot q s =
      done (arbitrate (s.spotAsked q)) (if (arbitrate (s.spotAsked q)).spot.state = .waiting then 0 else 1) := rfl

/-- A spot that waits or runs makes SPOT answer BUSY (R104). -/
theorem spotCommand_busy {d : Byte} (busy : busyDetail s.spot.state = some d) : spotCommand s = refuse s .busy d := by
  rw [spotCommand, busy]

/-- With no spot, SPOT goes by its arguments and then by the channel (R104, R105). -/
theorem spotCommand_none (noSpot : s.spot.state = .none) :
    spotCommand s = withArgs s (parseSpot s) fun q =>
      if s.channels[q.channel].enabled then acceptSpot q s else refuse s .badArg 6 := by
  rw [spotCommand, noSpot]
  rfl

/-- The cache step is the unit's and the cache's alone (R5). -/
theorem cacheStep_spot (s : State) : (cacheStep s).spot = s.spot := by
  rcases cacheStep_cases s with e | ⟨slot, -, -, e⟩ <;> rw [e]

/-- While the unit serves, the spot waits (R105). -/
theorem acceptSpot_held (held : s.arb.holder ≠ none) : acceptSpot q s = done (s.spotAsked q) 0 := by
  have waits : arbitrate (s.spotAsked q) = s.spotAsked q := arbitrate_serving held
  rw [acceptSpot_eq, waits]
  rfl

/-- A free unit that no scan asks for is granted to the spot at once (R99, R105). -/
theorem arbitrate_spotAsked (enabled : s.channels[q.channel].enabled = true) (free : s.arb.holder = none)
    (alone : s.arb.scanReq = none) : (arbitrate (s.spotAsked q)).spot.state = .running := by
  have chosen : Chosen (s.spotAsked q) .spot q := ⟨free, rfl, .inl alone⟩
  have granted : arbitrate (s.spotAsked q) = cacheStep ((s.spotAsked q).granted .spot q) :=
    (arbitrateUpTo_chosen 2 chosen.1 (choose_of_chosen chosen)).trans (if_pos enabled)
  rw [granted, cacheStep_spot]
  rfl

theorem acceptSpot_running (runs : (arbitrate (s.spotAsked q)).spot.state = .running) :
    acceptSpot q s = done (arbitrate (s.spotAsked q)) 1 := by
  rw [acceptSpot_eq, runs]
  rfl

/-- Settles O25: by the spot state, then by the parse, then by the channel and the unit. -/
theorem spotIsRefusedOrRequested : Obligations.SpotIsRefusedOrRequested := by
  intro s writing
  have answers : ∀ {x : Answer}, spotCommand s = x →
      exec .spot s = .next (x.state.answered 0x30#8 x.result x.detail) := commandRow_answer .spot writing
  refine ⟨fun waiting => answers (spotCommand_busy (by rw [waiting]; rfl)),
    fun running => answers (spotCommand_busy (by rw [running]; rfl)), fun noSpot => ⟨fun d bad => ?_, ?_⟩⟩
  · exact congrArg Host.Outcome.next
      (commandRow_firstBad (x := .spot) writing (spotCommand_none noSpot) (parseSpot_refuses s) bad)
  · intro q channel reference target repeatCode fresh
    have parsed : spotCommand s =
        if s.channels[q.channel].enabled then acceptSpot q s else refuse s .badArg 6 := by
      rw [spotCommand_none noSpot, parseSpot_ok channel reference target repeatCode fresh]
      rfl
    refine ⟨fun disabled => answers (x := refuse s .badArg 6) ?_,
      fun enabled held => answers (x := done (s.spotAsked q) 0) ?_, fun enabled free alone => ?_⟩
    · exact parsed.trans (if_neg (Bool.eq_false_iff.1 disabled))
    · exact parsed.trans ((if_pos enabled).trans (acceptSpot_held held))
    · have runs := arbitrate_spotAsked enabled free alone
      exact ⟨_, rfl, runs, answers (parsed.trans ((if_pos enabled).trans (acceptSpot_running runs)))⟩

/-! ### CANCEL_SPOT -/

/-- The unit's owner is stopped and the spot ends with CANCELLED, of the warnings CACHED alone kept (R21, R107,
log 10). -/
theorem stopSpot_eq (owner : s.conv.owner = some .spot) :
    stopSpot s = s.unitReleased.spotEnded
      { status := .cancelled, warnings := { imbalance := false, cached := s.conv.warnings.cached, ratioSat := false },
        ratioValid := false, window := s.conv.window.getD 0, count := 0, ratio := 0 } :=
  if_pos owner

/-- Settles O26: by the spot state. -/
theorem cancelSpotActsByState : Obligations.CancelSpotActsByState := by
  intro s writing
  have answers : ∀ {x : Answer}, cancelSpot s = x →
      exec .cancelSpot s = .next (x.state.answered 0x31#8 x.result x.detail) := commandRow_answer .cancelSpot writing
  refine ⟨fun noSpot => answers (x := done s 0) ?_, fun waiting => ⟨_, rfl, answers (x := done (arbitrate _) 1) ?_⟩,
    fun running owner => ⟨_, rfl, answers (x := done (arbitrate _) 2) ?_⟩⟩
  · rw [cancelSpot, noSpot]
  · rw [cancelSpot, waiting]
    rfl
  · rw [cancelSpot, running, ← stopSpot_eq owner]

end Sys2Proof.Machine
end

section
/-! SUPPORT. The result FIFO and the event queue (06, 08): everything that a step can do to them and to the state of the
controller that fills the FIFO, said once, move by move. -/

namespace Sys2Proof.Machine

/-! ### The queues -/

/-- The two queues that the host reads by latch and pop (R112, R153), with the state of the controller. -/
structure Queues where
  state : EngineState
  fifo : ResultFifo
  events : EventQueue

/-- The queues of the part. -/
def State.queues (s : State) : Queues := { state := s.ctl.state, fifo := s.fifo, events := s.events }

/-- A scan is in progress (R76, R118). -/
abbrev Queues.InScan (q : Queues) : Prop := q.state = .scanning ∨ q.state = .holdRecord

/-- What one rule does to the queues and the controller's state. -/
inductive QueueMove : Queues → Queues → Prop where
  /-- An event finds room (R157). -/
  | eventHanded {q : Queues} (e : EventRecord) (room : q.events.count < Config.eventCapacity) :
      QueueMove q { q with events := { q.events with records := q.events.records ++ [e] } }
  /-- A measurement record finds a place beyond the reserved one (R119). -/
  | recordAppended {q : Queues} (r : FifoRecord) (place : q.fifo.hasPlace = true) :
      QueueMove q { q with fifo := { q.fifo with records := q.fifo.records ++ [r] } }
  /-- A record is held (R82). -/
  | recordHeld {q : Queues} (scanning : q.state = .scanning) : QueueMove q { q with state := .holdRecord }
  /-- A held record has found its place (R83). -/
  | recordTaken {q : Queues} (held : q.state = .holdRecord) : QueueMove q { q with state := .scanning }
  /-- A scan starts and reserves the place of its SCAN_END record (R76, R118). -/
  | scanStarted {q : Queues} (room : q.fifo.count < Config.fifoCapacity) :
      QueueMove q { q with state := .scanning, fifo := { q.fifo with reserved := true } }
  /-- A scan ends: the SCAN_END record takes the reserved place (R88, R120). -/
  | scanEnded {q : Queues} {state : EngineState} (r : ScanEndRecord) (scan : q.InScan)
      (outside : state = .idle ∨ state = .armed) :
      QueueMove q { q with state := state, fifo := { q.fifo with records := q.fifo.records ++ [.scanEnd r],
                                                                  reserved := false } }
  /-- The controller goes from one state without a scan to another (R73 to R75, R93, R94). -/
  | waits {q : Queues} {state : EngineState} (outside : ¬q.InScan)
      (stays : state = .idle ∨ state = .armed ∨ state = .holdStart) : QueueMove q { q with state := state }
  /-- RESULT byte 0 latches the head (R122). -/
  | resultLatched (q : Queues) : QueueMove q { q with fifo := q.fifo.latchHead }
  /-- RESULT byte 15 pops (R124). -/
  | resultPopped (q : Queues) : QueueMove q { q with fifo := q.fifo.pop }
  /-- FLUSH_FIFO (R127). -/
  | flushed (q : Queues) : QueueMove q { q with fifo := q.fifo.flush }
  /-- FIFO_THRESHOLD is written (R130). -/
  | thresholdSet (q : Queues) (n : Nat) : QueueMove q { q with fifo := { q.fifo with threshold := n } }
  /-- EVENT byte 0 latches the head (R159). -/
  | eventLatched (q : Queues) : QueueMove q { q with events := q.events.latchHead }
  /-- EVENT byte 7 pops (R161). -/
  | eventPopped (q : Queues) : QueueMove q { q with events := q.events.popHead }
  /-- RESET_ENGINE (R67, R113, R154). -/
  | engineReset (q : Queues) :
      QueueMove q { state := .idle, fifo := q.fifo.engineReset, events := EventQueue.reset }
  /-- A hard reset (R66, R113, R154, R194). -/
  | hardReset (q : Queues) : QueueMove q State.reset.queues

/-- The queues of `s` have come from `q` by moves alone. -/
def QueuesFrom (q : Queues) (s : State) : Prop := Relation.ReflTransGen QueueMove q s.queues

/-! ### Operations beside the queues -/

/-- A grant leaves the queues (R99). -/
theorem grantUnit_queues (who : Requester) (q : Request) (s : State) :
    (grantUnit who q (takeGrant who s)).1.queues = s.queues := by
  have taken : (takeGrant who s).queues = s.queues := by cases who <;> rfl
  rw [← taken]
  rcases grantUnit_cases who q (takeGrant who s) with ⟨-, e⟩ | ⟨-, e⟩ <;> rw [e]
  · rcases cacheStep_cases { takeGrant who s with conv := beginMeasurement who q (takeGrant who s) } with
      e | ⟨slot, -, -, e⟩ <;> rw [e] <;> rfl
  · rfl

/-- A boundary leaves the queues, before an ended measurement is handed over. -/
theorem boundaryOutcome_queues (k : Boundary) (s : State) : (boundaryOutcome k s).1.queues = s.queues := by
  cases k with
  | windowEnd => exact windowEnds_keeps (P := fun out => out.1.queues = s.queues) rfl (fun _ => rfl) rfl
  | ignored | counted | refSettleExpiry | refTimeout | snsSettleExpiry | firstHalfEnd => rfl

/-- An edge leaves the queues, before an ended measurement is handed over. -/
theorem edgeOutcome_queues (k : Edge) (s : State) : (edgeOutcome k s).1.queues = s.queues := by
  cases k with
  | referenceComplete =>
    show (referenceCompletes s).1.queues = s.queues
    rcases Nat.lt_or_ge s.conv.wc Config.minWindow with short | long
    · rw [referenceCompletes_short short]
      rfl
    · rw [referenceCompletes_long long]
      rfl
  | ignored | counted | openingEdge | sensorOverrange => rfl

/-- The scan cut off by ABORT keeps its reservation until it is closed (R95). -/
theorem cutOffScan_queues (s : State) : (cutOffScan s).queues = s.queues := by
  unfold cutOffScan
  dsimp only
  split <;> rfl

theorem commit_queues (s : State) : (commit s).state.queues = s.queues := by
  unfold commit
  split
  · rfl
  · split
    · rfl
    · dsimp only
      split <;> rfl

namespace QueuesFrom

variable {q : Queues} {s t : State}

theorem beside (h : QueuesFrom q s) (e : t.queues = s.queues) : QueuesFrom q t := by
  unfold QueuesFrom
  rw [e]
  exact h

/-- An operation that is one move. -/
theorem moved (h : QueuesFrom q s) (m : QueueMove s.queues t.queues) : QueuesFrom q t := Relation.ReflTransGen.tail h m

/-! ### Records and events -/

/-- An event is appended, or dropped where the queue is full (R157). -/
theorem handEvent (e : EventRecord) (h : QueuesFrom q s) : QueuesFrom q (handEvent e s) := by
  unfold Machine.handEvent
  split
  · next room => exact h.moved (.eventHanded e room)
  · exact h.beside rfl

theorem offerToSlot (i : Fin 16) (r : MeasRecord) (h : QueuesFrom q s) : QueuesFrom q (offerToSlot i r s) := by
  unfold Machine.offerToSlot
  dsimp only
  split
  · obtain ⟨slot, _ | band⟩ := s.limits[i].evaluate r.ratio
    · exact h.beside rfl
    · exact handEvent _ (h.beside rfl)
  · exact h

theorem offerAndFlag (r : MeasRecord) (h : QueuesFrom q s) : QueuesFrom q (offerAndFlag r s) := by
  have flagged : ∀ {u}, QueuesFrom q u → QueuesFrom q (if r.status.isFault then raise .entryFault u else u) :=
    fun h => guarded_keeps h (h.beside rfl)
  unfold Machine.offerAndFlag
  dsimp only
  cases s.entry.slot with
  | none => exact flagged h
  | some i => exact flagged (guarded_keeps (c := r.status = .ok) h (h.offerToSlot i r))

/-- A measurement record is appended where it has a place (R119). -/
theorem appendRecord (r : FifoRecord) (place : s.fifo.hasPlace = true) (h : QueuesFrom q s) :
    QueuesFrom q (appendRecord r s) :=
  h.moved (by simpa [State.queues] using QueueMove.recordAppended (q := s.queues) r place)

/-! ### The walk -/

theorem afterRecord (r : MeasRecord) (h : QueuesFrom q s) : QueuesFrom q (afterRecord r s).1 := by
  rcases afterRecord_cases r s with ⟨-, -, e⟩ | ⟨i, -, -, e⟩ | ⟨-, e⟩ <;> rw [e] <;> exact h

theorem handleRecord (r : MeasRecord) (scanning : s.ctl.state = .scanning) (h : QueuesFrom q s) :
    QueuesFrom q (handleRecord r s).1 := by
  have offered := h.offerAndFlag r
  rcases handleRecord_cases r s with ⟨place, e⟩ | ⟨-, -, e⟩ | ⟨-, -, e⟩ <;> rw [e]
  · exact afterRecord r ((offered.appendRecord _ (by simpa using place)).beside rfl)
  · exact afterRecord r (offered.beside rfl)
  · exact offered.moved (.recordHeld (by simpa [State.queues] using scanning))

/-- A scan end with the entry into IDLE or ARMED (R88, R89). -/
theorem closed (c : Termination) (scan : ScanInProgress s) (fifo : t.fifo = (closeScan c s).fifo)
    (events : t.events = s.events) (outside : t.ctl.state = .idle ∨ t.ctl.state = .armed) (h : QueuesFrom q s) :
    QueuesFrom q t :=
  h.moved (by
    rw [State.queues, State.queues, fifo, events, closeScan_fifo]
    exact .scanEnded _ scan outside)

theorem endScan (c : Termination) (scanning : s.ctl.state = .scanning) (h : QueuesFrom q s) :
    QueuesFrom q (endScan c s).1 := by
  rcases endScan_cases c s with ⟨-, e⟩ | ⟨-, e⟩ <;> rw [e]
  · exact h.closed c (.inl scanning) rfl (closeScan_events s c) (.inl rfl)
  · exact h.closed c (.inl scanning) rfl (closeScan_events s c) (.inr rfl)

/-- An attempt outside a scan starts one where the FIFO has room (R74 to R76). -/
theorem startAttempt (outside : ¬ScanInProgress s) (h : QueuesFrom q s) : QueuesFrom q (startAttempt s).1 := by
  rcases startAttempt_cases s with ⟨room, e⟩ | ⟨-, -, e⟩ | ⟨-, -, e⟩ <;> rw [e]
  · exact h.moved (.scanStarted room)
  · exact h.moved (.waits outside (.inr (.inl rfl)))
  · exact h.moved (.waits outside (.inr (.inr rfl)))

theorem restart {c : Termination} (latched : (Machine.endScan c s).2 = true)
    (h : QueuesFrom q (Machine.endScan c s).1) :
    QueuesFrom q (Machine.startAttempt (Machine.endScan c s).1).1 :=
  h.startAttempt (by simp [ScanInProgress, (endScan_latched latched).1])

theorem walkKeeps (q : Queues) : WalkKeeps (QueuesFrom q) where
  request s scanning _ h := by
    rcases reachEntry_cases s with ⟨-, e⟩ | ⟨-, e⟩ <;> rw [e]
    · exact h.beside rfl
    · exact h.handleRecord _ scanning
  moves r s scanning h _ _ := h.handleRecord r scanning
  ends r s c scanning h ended _ :=
    (h.handleRecord r scanning).endScan c ((handleRecord_ctl r s scanning).2 (by simp [ended]))
  restarts r s c scanning h ended latched :=
    ((h.handleRecord r scanning).endScan c ((handleRecord_ctl r s scanning).2 (by simp [ended]))).restart latched

theorem ended (c : Termination) (scanning : s.ctl.state = .scanning) (h : QueuesFrom q s) :
    QueuesFrom q (continueWalk (s, .ends c)) :=
  (walkKeeps q).ended (h.endScan c scanning) fun latched => (h.endScan c scanning).restart latched

theorem continueWalk_afterRecord (r : MeasRecord) (scanning : s.ctl.state = .scanning) (h : QueuesFrom q s) :
    QueuesFrom q (continueWalk (Machine.afterRecord r s)) := by
  have after := h.afterRecord r
  rcases afterRecord_cases r s with ⟨-, -, e⟩ | ⟨i, -, -, e⟩ | ⟨-, e⟩ <;> rw [e] at after ⊢
  · exact h.ended _ scanning
  · show QueuesFrom q (reachOn _)
    rw [reachOn_eq]
    rcases reachEntry_cases { s with ctl := { s.ctl with entryIndex := i } } with ⟨-, w⟩ | ⟨-, w⟩ <;> rw [w]
    · exact after.beside rfl
    · exact continueWalk_handled_keeps (walkKeeps q) _ _ scanning after
  · exact h.ended _ scanning

theorem deliver (who : Requester) (r : Result) (h : QueuesFrom q s) : QueuesFrom q (deliver who r s) := by
  cases who with
  | spot => exact h.beside rfl
  | scan =>
    exact row_keeps (p := s.ctl.state = .scanning) h fun scanning =>
      continueWalk_handled_keeps (walkKeeps q) _ s scanning h

/-! ### The unit -/

theorem arbitrate (h : QueuesFrom q s) : QueuesFrom q (arbitrate s) :=
  arbitrate_keeps (fun u who a _ _ _ h => h.beside (grantUnit_queues who a u))
    (fun u who a _ _ _ h => deliver who _ (h.beside (grantUnit_queues who a u))) s h

theorem finish (r : Result) (h : QueuesFrom q s) : QueuesFrom q (finish r s) := by
  have parked : QueuesFrom q (parkUnit s) := h.beside rfl
  unfold Machine.finish
  split
  · exact parked.arbitrate
  · exact (parked.deliver _ r).arbitrate

theorem settleUnit {out : State × Option Result} (h : QueuesFrom q out.1) : QueuesFrom q (settleUnit out) := by
  obtain ⟨u, _ | r⟩ := out
  · exact h
  · exact h.finish r

theorem takeBoundary (k : Boundary) (h : QueuesFrom q s) : QueuesFrom q (takeBoundary k s) := by
  rw [takeBoundary_eq]
  exact settleUnit (h.beside (boundaryOutcome_queues k s))

theorem takeEdge (k : Edge) (h : QueuesFrom q s) : QueuesFrom q (takeEdge k s) := by
  rw [takeEdge_eq]
  exact settleUnit (h.beside (edgeOutcome_queues k s))

/-! ### Starts, triggers and room reports -/

theorem attemptStart (outside : ¬ScanInProgress s) (h : QueuesFrom q s) : QueuesFrom q (attemptStart s).1 :=
  attemptStart_keeps (walkKeeps q) (fun _ h => h.arbitrate) s (h.startAttempt outside)

theorem takeTrigger (h : QueuesFrom q s) : QueuesFrom q (takeTrigger s) := by
  unfold Machine.takeTrigger
  split
  · exact h
  · next armed => exact h.attemptStart (by simp [ScanInProgress, armed])
  all_goals split <;> exact h.beside rfl

/-- A held record that finds a place is appended, and the walk goes on in SCANNING (R83). -/
theorem reofferRecord (held : s.ctl.state = .holdRecord) (h : QueuesFrom q s) : QueuesFrom q (reofferRecord s) := by
  unfold Machine.reofferRecord
  split
  · exact h
  · next r _ =>
    refine row_keeps h fun place => arbitrate (continueWalk_afterRecord r rfl ?_)
    exact (h.appendRecord (.measurement r) place).moved (.recordTaken (by simpa [State.queues] using held))

theorem roomReport (h : QueuesFrom q s) : QueuesFrom q (roomReport s) := by
  unfold Machine.roomReport
  split
  · next held => exact h.attemptStart (by simp [ScanInProgress, held])
  · next held => exact h.reofferRecord held
  all_goals exact h

theorem popResult (h : QueuesFrom q s) : QueuesFrom q (popResult s) :=
  guarded_keeps (roomReport (h.moved (.resultPopped _))) h

theorem takeLfBoundary (k : LfBoundary) (h : QueuesFrom q s) : QueuesFrom q (takeLfBoundary k s) := by
  cases k with
  | expiry => exact guarded_keeps (h.beside rfl) (takeTrigger (h.beside rfl))
  | ignored | counted | unitEnd => exact h.beside rfl

theorem lfRow (k : LfBoundary) (h : QueuesFrom q s) : QueuesFrom q (lfRow k s) := guarded_keeps h (h.takeLfBoundary k)

theorem trigChanges (high : Bool) (h : QueuesFrom q s) : QueuesFrom q (trigChanges high s) := by
  have delivered : ∀ u, u.queues = s.queues → QueuesFrom q (deliverEdge high u) := fun u e =>
    guarded_keeps (h.beside e) (takeTrigger (h.beside e))
  exact guarded_keeps (guarded_keeps (delivered _ rfl) (h.beside rfl)) h

/-! ### Commands -/

/-- A command that the state of the part refuses, or that does as it says (R191). -/
theorem refusable {p : Prop} [Decidable p] {r : CmdResult} {d : Byte} {x : Answer} (h : QueuesFrom q s)
    (accepted : QueuesFrom q x.state) : QueuesFrom q (if p then refuse s r d else x).state := by
  split
  · exact h
  · exact accepted

/-- A start command makes its attempt in IDLE (R70). -/
theorem startSingle (h : QueuesFrom q s) : QueuesFrom q (startSingle s).state := by
  unfold Machine.startSingle
  split
  · exact h
  · next accepted =>
    obtain ⟨idle, -⟩ := startRefusal_none accepted
    exact h.refusable (attemptStart (by simp [ScanInProgress, idle]) (h.beside rfl))

theorem startTimed (h : QueuesFrom q s) : QueuesFrom q (startTimed s).state := by
  unfold Machine.startTimed
  split
  · exact h
  · next accepted =>
    obtain ⟨idle, -⟩ := startRefusal_none accepted
    exact attemptStart (by simp [ScanInProgress, idle]) (h.beside rfl)

theorem armTrigger (h : QueuesFrom q s) : QueuesFrom q (armTrigger s).state := by
  unfold Machine.armTrigger
  split
  · exact h
  · next accepted =>
    obtain ⟨idle, -⟩ := startRefusal_none accepted
    exact h.moved (.waits (by simp [State.queues, idle]) (.inr (.inl rfl)))

/-- STOP and ABORT where no scan is in progress (R93, R94). -/
theorem enterIdle (outside : ¬ScanInProgress s) (h : QueuesFrom q s) : QueuesFrom q (enterIdle s) :=
  h.moved (.waits outside (.inl rfl))

theorem stopRun (h : QueuesFrom q s) : QueuesFrom q (stopRun s).state := by
  unfold Machine.stopRun
  split
  · exact h
  iterate 2
    next waiting => exact h.enterIdle (by simp [ScanInProgress, waiting])
  all_goals exact h.beside rfl

theorem abortRun (h : QueuesFrom q s) : QueuesFrom q (abortRun s).state := by
  have aborted (scan : ScanInProgress s) :
      QueuesFrom q (Machine.arbitrate (Machine.enterIdle (closeScan .aborted (cutOffScan s)))) := by
    have cut := cutOffScan_queues s
    have scan' : (cutOffScan s).queues.InScan := by rwa [cut]
    exact arbitrate ((h.beside cut).closed .aborted scan' rfl (closeScan_events _ _) (.inl rfl))
  unfold Machine.abortRun
  split
  · exact h
  iterate 2
    next waiting => exact h.enterIdle (by simp [ScanInProgress, waiting])
  · next scanning => exact aborted (.inl scanning)
  · next held => exact aborted (.inr held)

theorem spotCommand (h : QueuesFrom q s) : QueuesFrom q (spotCommand s).state := by
  unfold Machine.spotCommand
  split
  · exact h
  · refine withArgs_keeps h fun request => ?_
    split
    · exact arbitrate (h.beside rfl)
    · exact h

theorem cancelSpot (h : QueuesFrom q s) : QueuesFrom q (cancelSpot s).state := by
  unfold Machine.cancelSpot
  split
  · exact h
  · exact arbitrate (h.beside rfl)
  · exact arbitrate (guarded_keeps h (h.beside rfl))

theorem setClock (h : QueuesFrom q s) : QueuesFrom q (setClock s).state := by
  unfold Machine.setClock
  split
  · exact h
  · exact withArgs_keeps h fun _ => h.beside rfl

theorem runCommand (x : Command) (h : QueuesFrom q s) : QueuesFrom q (runCommand x s).state := by
  cases x with
  | startSingle => exact h.startSingle
  | startTimed => exact h.startTimed
  | armTrigger => exact h.armTrigger
  | stop => exact h.stopRun
  | abort => exact h.abortRun
  | resetEngine => exact h.moved (.engineReset _)
  | spot => exact h.spotCommand
  | cancelSpot => exact h.cancelSpot
  | flushFifo => exact roomReport (h.moved (.flushed _))
  | commit => exact h.beside (commit_queues s)
  | invalidateCache => exact h.beside rfl
  | setClock => exact h.setClock
  | setLength | writeEntry => exact h.refusable (withArgs_keeps h fun _ => h.beside rfl)
  | writeChannel | writeReference | writeSlot | preloadWindow | readEntry | readChannel | readReference | readCache |
      readSlot =>
    exact withArgs_keeps h fun _ => h.beside rfl

/-! ### Register accesses -/

theorem takeCode (v : Byte) (h : QueuesFrom q s) : QueuesFrom q (takeCode v s) := by
  unfold Machine.takeCode
  split
  · next x _ => exact (h.runCommand x).beside rfl
  · exact h.beside rfl

theorem writeFifoThreshold (v : Byte) (h : QueuesFrom q s) : QueuesFrom q (writeFifoThreshold v s) :=
  h.moved (.thresholdSet _ _)

theorem stage (which : StagedByte) (v : Byte) (h : QueuesFrom q s) : QueuesFrom q (stage which v s) := by
  cases which <;> exact h.beside rfl

theorem writeParam (a : Addr) (v : Byte) (h : QueuesFrom q s) : QueuesFrom q (writeParam a v s) := by
  unfold Machine.writeParam
  split <;> exact h.beside rfl

theorem writeValue (a : Addr) (v : Byte) (h : QueuesFrom q s) : QueuesFrom q (writeValue a v s) := by
  unfold Machine.writeValue
  split
  · exact h.takeCode v
  · exact h.beside rfl
  · exact h.writeFifoThreshold v
  iterate 10 exact h.beside rfl
  · exact h.writeParam a v

/-- A write row takes its byte, or nothing happens (log 3). -/
theorem writeRow (a : Addr) {f : State → State} (h : QueuesFrom q s) (hf : QueuesFrom q (f s)) :
    QueuesFrom q (writeRow a f s) :=
  guarded_keeps h (hf.beside (t := advance (f s)) rfl)

theorem commandRow (x : Command) (h : QueuesFrom q s) : QueuesFrom q (commandRow x (Machine.runCommand x) s) :=
  h.writeRow _ ((h.runCommand x).beside rfl)

/-- The copies of the heads are what a read does to the queues before its byte (R122, R159). -/
theorem beforeRead (a : Addr) (h : QueuesFrom q s) : QueuesFrom q (beforeRead a s) := by
  unfold Machine.beforeRead
  split
  iterate 4 exact h.beside rfl
  · exact h.moved (.resultLatched _)
  · exact h.moved (.eventLatched _)
  all_goals exact h.beside rfl

/-- The pops are what it does after its byte (R124, R161). -/
theorem afterRead (a : Addr) (h : QueuesFrom q s) : QueuesFrom q (afterRead a s) := by
  unfold Machine.afterRead
  split
  · exact h.popResult
  · exact h.moved (.eventPopped _)
  · exact h

theorem readBytes (n : Nat) (h : QueuesFrom q s) : QueuesFrom q (readBytes n s) := by
  induction n generalizing s with
  | zero => exact h
  | succ n ih => exact ih (afterRead _ ((h.beforeRead s.port.pointer).beside rfl))

theorem readRow (a : Addr) (h : QueuesFrom q s) : QueuesFrom q (readRow a s) := guarded_keeps h (h.readBytes _)

theorem accessRow (a : Addr) (x : Access) (h : QueuesFrom q s) : QueuesFrom q (accessRow a x s) := by
  cases x with
  | read => exact h.readRow a
  | write v => exact h.writeRow a (h.writeValue a v)

/-! ### Frames and pins -/

theorem csFalls (h : QueuesFrom q s) : QueuesFrom q (csFalls s) :=
  guarded_keeps (guarded_keeps (h.beside rfl) (h.beside rfl)) h

theorem csRises (reads : Nat) (h : QueuesFrom q s) : QueuesFrom q (csRises reads s) := by
  have taken : QueuesFrom q (if s.port.frame = .read then Machine.readBytes reads s else s) :=
    guarded_keeps h (h.readBytes reads)
  exact guarded_keeps h (taken.beside rfl)

theorem hardReset (h : QueuesFrom q s) (u : State) : QueuesFrom q (hardResetValues u) := h.moved (.hardReset _)

theorem rstRises (h : QueuesFrom q s) : QueuesFrom q (rstRises s) :=
  guarded_keeps h (guarded_keeps (h.beside rfl) (h.beside rfl))

theorem supplyCrosses (above : Bool) (h : QueuesFrom q s) : QueuesFrom q (supplyCrosses above s) :=
  guarded_keeps (guarded_keeps (h.hardReset _) (guarded_keeps (h.beside rfl) (h.beside rfl))) h

/-! ### Every command -/

/-- No command does anything to the queues but by the moves. -/
theorem exec (i : Instr) (h : QueuesFrom q s) : ∃ t, exec i s = .next t ∧ QueuesFrom q t := by
  cases i
  case startSingle | startTimed | armTrigger | stop | abort | resetEngine | setLength | writeEntry | readEntry |
      commit | writeChannel | readChannel | writeReference | readReference | preloadWindow | readCache |
      invalidateCache | spot | cancelSpot | flushFifo | writeSlot | readSlot | setClock =>
    exact ⟨_, rfl, h.commandRow _⟩
  case unknownCommand code => exact ⟨_, rfl, h.writeRow _ (h.takeCode code)⟩
  case frameStart => exact ⟨_, rfl, h.csFalls⟩
  case addressByte => exact ⟨_, rfl, guarded_keeps h (h.beside rfl)⟩
  case frameEnd reads => exact ⟨_, rfl, h.csRises reads⟩
  case resultByte0Read | resultByte15Read | eventByte0Read | eventByte7Read | spotByte0Read | snapshotLowByteRead =>
    exact ⟨_, rfl, h.readRow _⟩
  case stagingByteWrite which v => exact ⟨_, rfl, h.writeRow _ (h.stage which v)⟩
  case fifoThresholdWrite v => exact ⟨_, rfl, h.writeRow _ (h.writeFifoThreshold v)⟩
  case scanIntervalWrite | scanCountWrite | windowMaxWrite | scanCtrlWrite | cacheMaxAgeWrite | attnFlagsWrite |
      attnEnableWrite =>
    exact ⟨_, rfl, h.writeRow _ (h.beside rfl)⟩
  case registerWrite a x => exact ⟨_, rfl, h.accessRow a x⟩
  case hardReset => exact ⟨_, rfl, h.hardReset _⟩
  case resetRelease => exact ⟨_, rfl, h.rstRises⟩
  case powerOnReset above => exact ⟨_, rfl, h.supplyCrosses above⟩
  case trigEdge high => exact ⟨_, rfl, h.trigChanges high⟩
  case scanTimerUnit => exact ⟨_, rfl, guarded_keeps (h.lfRow _) (h.lfRow _)⟩
  case scanTimerExpiry => exact ⟨_, rfl, h.lfRow _⟩
  case lfPeriodBoundary => exact ⟨_, rfl, h.takeLfBoundary _⟩
  case grant => exact ⟨_, rfl, h.arbitrate⟩
  case refSettleExpiry | refTimeout | snsSettleExpiry | firstHalfEnd | windowEnd =>
    exact ⟨_, rfl, guarded_keeps h (h.takeBoundary _)⟩
  case openingEdge | referenceComplete | sensorOverrange => exact ⟨_, rfl, guarded_keeps h (h.takeEdge _)⟩
  case periodBoundary => exact ⟨_, rfl, h.takeBoundary _⟩
  case oscillatorEdge => exact ⟨_, rfl, h.takeEdge _⟩
  case heldStartRetry =>
    exact ⟨_, rfl, row_keeps h fun ⟨held, _⟩ => h.attemptStart (by simp [ScanInProgress, held])⟩
  case heldRecordReoffer => exact ⟨_, rfl, row_keeps h h.reofferRecord⟩
  case pendingTriggerStart =>
    exact ⟨_, rfl, row_keeps h fun ⟨armed, _⟩ => h.attemptStart (by simp [ScanInProgress, armed])⟩
  case swap => exact ⟨_, rfl, guarded_keeps h (h.beside rfl)⟩

end QueuesFrom

variable {s t : State}

/-- A step does nothing to the queues but by the moves. -/
theorem step_queueMoves (run : step s = .next t) : Relation.ReflTransGen QueueMove s.queues t.queues := by
  unfold step at run
  split at run
  · cases run
    exact .refl
  · next i rest _ =>
    have began : QueuesFrom s.queues { s with pending := rest } := .refl
    obtain ⟨u, run', moves⟩ := began.exec i
    cases run'.symm.trans run
    exact moves

/-- A law of the queues that every move keeps is kept by a step. -/
theorem step_keepsQueues {P : Queues → Prop} (run : step s = .next t) (law : P s.queues)
    (move : ∀ {p q}, QueueMove p q → P p → P q) : P t.queues := by
  have moves := step_queueMoves run
  generalize t.queues = q at moves ⊢
  induction moves with
  | refl => exact law
  | tail _ last ih => exact move last ih

end Sys2Proof.Machine
end

section
/-! SUPPORT. The law of the reservation and the law of the two read latches, each through the moves of the queues (R118,
R124, R157, R161). -/

namespace Sys2Proof.Machine

variable {p q : Queues}

/-! ### The reservation -/

/-- The reservation stands in a scan alone, and fits with the records, of the queues alone (R118). -/
structure Queues.Reserves (q : Queues) : Prop where
  standing : q.fifo.reserved = true ↔ q.InScan
  fits : q.fifo.records.length + q.fifo.reserved.toNat ≤ 32

theorem reservationLaw_iff (s : State) : ReservationLaw s ↔ s.queues.Reserves :=
  ⟨fun ⟨standing, fits⟩ => ⟨standing, fits⟩, fun ⟨standing, fits⟩ => ⟨standing, fits⟩⟩

namespace Queues.Reserves

/-- Outside a scan nothing is reserved. -/
theorem of_outside (outside : ¬q.InScan) (free : q.fifo.reserved = false) (fits : q.fifo.records.length ≤ 32) :
    q.Reserves where
  standing := iff_of_false (Bool.eq_false_iff.1 free) outside
  fits := by rwa [free]

/-- With no more records, and in a scan as before, the reservation is as it was. -/
theorem of_fewer (law : p.Reserves) (scan : q.InScan ↔ p.InScan) (reserved : q.fifo.reserved = p.fifo.reserved)
    (fewer : q.fifo.records.length ≤ p.fifo.records.length) : q.Reserves where
  standing := by rw [reserved, law.standing, scan]
  fits := by
    rw [reserved]
    exact (Nat.add_le_add_right fewer _).trans law.fits

/-- Every move keeps the reservation: a scan's start takes the place that its SCAN_END record fills. -/
theorem move (m : QueueMove p q) (law : p.Reserves) : q.Reserves := by
  have free (outside : ¬p.InScan) : p.fifo.reserved = false :=
    Bool.eq_false_iff.2 fun reserved => outside (law.standing.1 reserved)
  have fits := law.fits
  cases m with
  | recordAppended r place =>
    refine ⟨law.standing, ?_⟩
    have := (hasPlace_iff _).1 place
    simp only [List.length_append, List.length_singleton]
    omega
  | scanStarted room => exact ⟨iff_of_true rfl (.inl rfl), Nat.succ_le_of_lt room⟩
  | scanEnded r scan outside =>
    have reserved := law.standing.2 scan
    rw [reserved] at fits
    refine of_outside ?_ rfl ?_
    · rcases outside with rfl | rfl <;> rintro (e | e) <;> cases e
    · simpa using fits
  | waits outside stays =>
    refine of_outside ?_ (free outside) (le_of_add_le_left fits)
    rcases stays with rfl | rfl | rfl <;> rintro (e | e) <;> cases e
  | recordHeld scanning => exact law.of_fewer (iff_of_true (.inr rfl) (.inl scanning)) rfl le_rfl
  | recordTaken held => exact law.of_fewer (iff_of_true (.inl rfl) (.inr held)) rfl le_rfl
  | resultPopped => exact law.of_fewer Iff.rfl rfl (by simp [ResultFifo.pop])
  | flushed => exact law.of_fewer Iff.rfl rfl (Nat.zero_le _)
  | eventHanded | resultLatched | thresholdSet | eventLatched | eventPopped => exact law.of_fewer Iff.rfl rfl le_rfl
  | engineReset | hardReset => exact of_outside (by rintro (e | e) <;> cases e) rfl (Nat.zero_le _)

end Queues.Reserves

/-- Settles O53: move by move. -/
theorem stepKeepsReservationLaw : Obligations.StepKeepsReservationLaw := by
  intro s t law run
  exact (reservationLaw_iff t).2 (step_keepsQueues run ((reservationLaw_iff s).1 law) Queues.Reserves.move)

/-! ### The latches -/

/-- A latch that is not consumed holds the head of its list (R124, R161). -/
def LatchOnHead {α : Type} (records : List α) (latch : Option α) (consumed : Bool) : Prop :=
  consumed = false → latch = records.head? ∧ records ≠ []

namespace LatchOnHead

variable {α : Type} {records : List α} {latch : Option α} {consumed : Bool}

/-- A read of byte 0 latches the head, where there is one (R122, R159). -/
theorem latched (records : List α) : LatchOnHead records records.head? records.isEmpty :=
  fun fresh => ⟨rfl, List.isEmpty_eq_false_iff.1 fresh⟩

/-- A record placed after the tail leaves the head. -/
theorem append (h : LatchOnHead records latch consumed) (r : α) : LatchOnHead (records ++ [r]) latch consumed := by
  intro fresh
  obtain ⟨head, filled⟩ := h fresh
  exact ⟨by rw [head, List.head?_append_of_ne_nil _ filled], by simp⟩

/-- A consumed latch says nothing of its list. -/
theorem of_consumed : LatchOnHead records latch true := nofun

end LatchOnHead

/-- The laws of the two windows and the bound of the event queue, of the queues alone (R124, R157, R161). -/
structure Queues.Latches (q : Queues) : Prop where
  fits : q.events.records.length ≤ 16
  event : LatchOnHead q.events.records q.events.latch q.events.consumed
  result : LatchOnHead q.fifo.records q.fifo.latch q.fifo.consumed

theorem latches_iff (s : State) : EventQueueLaw s ∧ ResultLatchLaw s ↔ s.queues.Latches :=
  ⟨fun ⟨⟨fits, event⟩, result⟩ => ⟨fits, event, result⟩, fun ⟨fits, event, result⟩ => ⟨⟨fits, event⟩, result⟩⟩

/-- An event's pop leaves no more events than before, and a latch that is consumed (R161). -/
theorem popHead_cases (e : EventQueue) :
    e.popHead = e ∨ e.popHead = { e with records := e.records.tail, consumed := true } := by
  unfold EventQueue.popHead
  split
  · exact .inl rfl
  · exact .inr rfl

theorem Queues.Latches.move (m : QueueMove p q) (law : p.Latches) : q.Latches := by
  obtain ⟨fits, event, result⟩ := law
  cases m with
  | eventHanded e room => exact ⟨List.length_append.trans_le room, event.append e, result⟩
  | recordAppended r => exact ⟨fits, event, result.append r⟩
  | scanEnded r => exact ⟨fits, event, result.append (.scanEnd r)⟩
  | resultLatched => exact ⟨fits, event, .latched _⟩
  | resultPopped | flushed => exact ⟨fits, event, .of_consumed⟩
  | eventLatched => exact ⟨fits, .latched _, result⟩
  | eventPopped =>
    rcases popHead_cases p.events with e | e <;> rw [e]
    · exact ⟨fits, event, result⟩
    · exact ⟨(List.tail_sublist _).length_le.trans fits, .of_consumed, result⟩
  | recordHeld | recordTaken | scanStarted | waits | thresholdSet => exact ⟨fits, event, result⟩
  | engineReset | hardReset => exact ⟨Nat.zero_le _, .of_consumed, .of_consumed⟩

/-- Settles O57: move by move. -/
theorem stepKeepsLatchesOnHeads : Obligations.StepKeepsLatchesOnHeads := by
  intro s t events result run
  exact (latches_iff t).2 (step_keepsQueues run ((latches_iff s).1 ⟨events, result⟩) Queues.Latches.move)

end Sys2Proof.Machine
end

section
/-! SUPPORT. The bytes of the records in the RESULT and SPOT windows (R114 to R117), the reads of RESULT bytes 0 and 15
(R122, R124), and the room report of a pop and of FLUSH_FIFO (R126, R127). -/

namespace Sys2Proof.Machine

/-! ### Bytes made of fields -/

/-- Two fields side by side are the upper one's multiple plus the lower one. -/
theorem append_toNat {m n : Nat} (x : BitVec m) (y : BitVec n) : (x ++ y).toNat = x.toNat * 2 ^ n + y.toNat := by
  rw [BitVec.toNat_append, ← Nat.shiftLeft_add_eq_or_of_lt y.isLt, Nat.shiftLeft_eq]

/-- Byte 0 of a measurement record (R116). -/
theorem statusByte_toNat (imbalance cached valid : Bool) (status : BitVec 3) (kind : BitVec 2) :
    (BitVec.ofBool imbalance ++ BitVec.ofBool cached ++ BitVec.ofBool valid ++ status ++ kind : Byte).toNat =
      kind.toNat + 4 * status.toNat + 32 * valid.toNat + 64 * cached.toNat + 128 * imbalance.toNat := by
  simp only [append_toNat, BitVec.toNat_ofBool]
  omega

/-- Byte 1 of a measurement record (R116). -/
theorem entryByte_toNat (repeatCode : Fin 4) (entry : Fin 32) :
    (0#1 ++ BitVec.ofNat 2 repeatCode ++ BitVec.ofNat 5 entry : Byte).toNat = entry.val + 32 * repeatCode.val := by
  simp only [append_toNat, BitVec.toNat_ofNat]
  omega

/-- Byte 3 of a measurement record (R116). -/
theorem channelByte_toNat (saturated : Bool) (reference : Fin 4) (channel : Fin 16) :
    (0#1 ++ BitVec.ofBool saturated ++ BitVec.ofNat 2 reference ++ BitVec.ofNat 4 channel : Byte).toNat =
      channel.val + 16 * reference.val + 64 * saturated.toNat := by
  simp only [append_toNat, BitVec.toNat_ofNat, BitVec.toNat_ofBool]
  omega

/-- Byte 0 of a SCAN_END record (R117). -/
theorem terminationByte_toNat (code kind : BitVec 2) :
    (0#4 ++ code ++ kind : Byte).toNat = kind.toNat + 4 * code.toNat := by
  simp only [append_toNat, BitVec.toNat_ofNat]
  omega

/-! ### Records -/

/-- The upper byte of a 16-bit value is the whole quotient. -/
theorem upperByte_eq (v : BitVec 16) : v.toNat / 256 % 256 = v.toNat / 256 :=
  Nat.mod_eq_of_lt (Nat.div_lt_of_lt_mul v.isLt)

/-- The sixteen bytes of a measurement record (R116). -/
theorem measBytes_toNat (kind : BitVec 2) (r : MeasRecord) :
    (measBytes kind r).toList.map BitVec.toNat =
      [kind.toNat + 4 * r.status.code.toNat + 32 * r.ratioValid.toNat + 64 * r.warnings.cached.toNat +
         128 * r.warnings.imbalance.toNat,
       r.entryIndex.val + 32 * r.repeatCode.val, r.tag.toNat,
       r.channel.val + 16 * r.reference.val + 64 * r.warnings.ratioSat.toNat,
       r.seq.toNat % 256, r.seq.toNat / 256,
       r.window % 256, r.window / 256 % 256, r.window / 65536 % 256,
       r.count % 256, r.count / 256 % 256, r.count / 65536 % 256, r.count / 16777216 % 256,
       r.ratio % 256, r.ratio / 256 % 256, r.ratio / 65536 % 256] := by
  simp only [measBytes, Vector.toList_mk, List.map_cons, List.map_nil, statusByte_toNat, entryByte_toNat,
    channelByte_toNat, byteOf_toNat, Nat.reducePow, Nat.div_one, upperByte_eq]

/-- The sixteen bytes of a SCAN_END record (R117). -/
theorem scanEndBytes_toNat (r : ScanEndRecord) :
    (scanEndBytes r).toList.map BitVec.toNat =
      [2 + 4 * r.termination.code.toNat, r.measured % 256, r.faults % 256, r.discarded % 256, r.seq.toNat % 256,
       r.seq.toNat / 256, r.skipped % 256, 0, 0, 0, 0, 0, 0, 0, 0, 0] := by
  simp only [scanEndBytes, Vector.toList_mk, List.map_cons, List.map_nil, terminationByte_toNat, byteOf_toNat,
    Nat.reducePow, Nat.div_one, upperByte_eq]
  rfl

/-- The EMPTY record is all zeros (R114). -/
theorem emptyBytes_getElem (i : Fin 16) : emptyBytes[i] = 0#8 := Vector.getElem_replicate _

variable {s : State}

/-! ### Room reports -/

/-- Outside the holds a room report does nothing (R126). -/
theorem roomReport_elsewhere (elsewhere : s.ctl.state = .idle ∨ s.ctl.state = .armed ∨ s.ctl.state = .scanning) :
    roomReport s = s := by
  unfold roomReport
  rcases elsewhere with e | e | e <;> rw [e]

/-- With room, a held start is attempted by a room report as by its own row (R77, R126). -/
theorem heldStartRetry_eq (held : s.ctl.state = .holdStart) (room : s.fifo.records.length < 32) :
    exec .heldStartRetry s = .next (roomReport s) := by
  rw [roomReport, held]
  exact congrArg Host.Outcome.next (if_pos ⟨held, room⟩)

/-- A held record is offered by a room report as by its own row (R83, R126). -/
theorem heldRecordReoffer_eq (held : s.ctl.state = .holdRecord) :
    exec .heldRecordReoffer s = .next (roomReport s) := by
  rw [roomReport, held]
  exact congrArg Host.Outcome.next (if_pos held)

/-- Settles O27: the room report of the emptied FIFO, by the controller's state. -/
theorem flushEmptiesTheFifo : Obligations.FlushEmptiesTheFifo := by
  intro s writing flushed n
  have answers : exec .flushFifo s = .next ((roomReport flushed).answered 0x38#8 .done n) :=
    commandRow_answer .flushFifo writing rfl
  refine ⟨fun elsewhere => ?_, fun held => ⟨_, heldStartRetry_eq held (Nat.zero_lt_succ _), answers⟩,
    fun held => ⟨_, heldRecordReoffer_eq held, answers⟩⟩
  rwa [roomReport_elsewhere (s := flushed) elsewhere] at answers

/-! ### The RESULT window -/

/-- RESULT byte 0 is read from the latch that the read has just taken (R122). -/
theorem exec_resultByte0Read (reading : ReadingAt 0x30#7 s) :
    exec .resultByte0Read s = .next
      ({ s with fifo := s.fifo.latchHead }.read (resultBytes s.fifo.records.head?)[0]) := by
  show Host.Outcome.next (readRow 0x30#7 s) = _
  rw [readRow_at _ s reading, readByte_eq, reading.2]
  rfl

/-- RESULT byte 15 is read, and then the latched record is popped (R124). -/
theorem exec_resultByte15Read (reading : ReadingAt 0x3F#7 s) :
    exec .resultByte15Read s = .next (popResult (s.read (resultBytes s.fifo.latch)[15])) := by
  show Host.Outcome.next (readRow 0x3F#7 s) = _
  rw [readRow_at _ s reading, readByte_eq, reading.2]
  rfl

/-- Settles O11: the layouts by the record, the reads by the latch, and the pop's room report by the controller's
state. -/
theorem resultWindowLatchesAndPops : Obligations.ResultWindowLatchesAndPops := by
  refine ⟨fun r => ?_, fun e => ?_, fun i => ⟨emptyBytes_getElem i, emptyBytes_getElem i⟩,
    fun s => ⟨exec_resultByte0Read, fun reading consumed => ?_, fun reading fresh => ?_⟩⟩
  · have result := measBytes_toNat kindMeasurement r
    have spot := measBytes_toNat kindSpot r
    obtain ⟨status, _⟩ := r
    cases status <;> exact ⟨result, spot⟩
  · have bytes := scanEndBytes_toNat e
    obtain ⟨termination, _⟩ := e
    cases termination <;> exact bytes
  · rw [exec_resultByte15Read reading]
    exact congrArg Host.Outcome.next (if_pos consumed)
  · intro popped
    have pops : exec .resultByte15Read s = .next (roomReport popped) := by
      rw [exec_resultByte15Read reading]
      exact congrArg Host.Outcome.next (if_neg (Bool.eq_false_iff.1 fresh))
    refine ⟨fun elsewhere => ?_, fun held ⟨_, fits⟩ _ => ⟨_, heldStartRetry_eq held ?_, pops⟩,
      fun held => ⟨_, heldRecordReoffer_eq held, pops⟩⟩
    · rwa [roomReport_elsewhere (s := popped) elsewhere] at pops
    · have records : s.fifo.records.length ≤ 32 := le_of_add_le_left fits
      have popped_length : popped.fifo.records.length = s.fifo.records.length - 1 := List.length_tail
      omega

end Sys2Proof.Machine
end

section
/-! SUPPORT. Limit supervision (07): the candidate a ratio points to, the evaluation of a slot, the offer of a record to
its slot, and WRITE_SLOT. -/

namespace Sys2Proof.Machine

/-! ### The candidate -/

section Candidate
variable {l : LimitSlot} {x : Nat}

/-- From UNKNOWN or IN_BAND the bounds alone decide (R142). -/
theorem candidate_unbiased (state : l.state = none ∨ l.state = some .inBand) :
    l.candidate x = if x < l.low.toNat then .low else if l.high.toNat < x then .high else .inBand := by
  rcases state with state | state <;> simp only [LimitSlot.candidate, state]

/-- LOW is left from the return bound on (R143). -/
theorem candidate_fromLow (state : l.state = some .low) :
    l.candidate x = if l.high.toNat < x then .high else if l.returnFromLow ≤ x then .inBand else .low := by
  simp only [LimitSlot.candidate, state]

/-- HIGH is left from the return bound down (R143). -/
theorem candidate_fromHigh (state : l.state = some .high) :
    l.candidate x = if x < l.low.toNat then .low else if x ≤ l.returnFromHigh then .inBand else .high := by
  simp only [LimitSlot.candidate, state]

end Candidate

/-- Settles O29: by the slot's state, and then by the bound that the ratio passes first. -/
theorem candidateFollowsTheState : Obligations.CandidateFollowsTheState := by
  intro l x bL bH
  refine ⟨fun state => ?_, fun state => ?_, fun state => ?_⟩
  · rw [candidate_unbiased state]
    exact ⟨fun below => if_pos below, fun low above => (if_neg (Nat.not_lt.2 low)).trans (if_pos above),
      fun low high => (if_neg (Nat.not_lt.2 low)).trans (if_neg (Nat.not_lt.2 high))⟩
  · rw [candidate_fromLow state]
    refine ⟨fun above => if_pos above, fun returned high => (if_neg (Nat.not_lt.2 high)).trans (if_pos returned),
      fun short high => (if_neg (Nat.not_lt.2 high)).trans (if_neg (Nat.not_le.2 short)), fun noReturn => ?_⟩
    split
    · nofun
    · next high =>
      have short : ¬l.returnFromLow ≤ x := fun returned => high (noReturn.trans_le returned)
      rw [if_neg short]
      nofun
  · rw [candidate_fromHigh state]
    refine ⟨fun below => if_pos below, fun low returned => (if_neg (Nat.not_lt.2 low)).trans (if_pos returned),
      fun low far => (if_neg (Nat.not_lt.2 low)).trans (if_neg (Nat.not_le.2 far)), fun noReturn => ?_⟩
    split
    · nofun
    · next low =>
      have far : ¬x ≤ l.returnFromHigh := fun returned => low (returned.trans_lt noReturn)
      rw [if_neg far]
      nofun

/-! ### The evaluation -/

section Evaluation
variable {l : LimitSlot} {x : Nat}

/-- A candidate that is the state leaves it, with nothing pending (R144). -/
theorem evaluate_agrees (same : l.state = some (l.candidate x)) : l.evaluate x = (l.settled l.state, none) :=
  if_pos same

/-- The first candidate in band is taken at once, without an event (R144). -/
theorem evaluate_joins (unknown : l.state = none) (inBand : l.candidate x = .inBand) :
    l.evaluate x = (l.settled (some .inBand), none) :=
  (if_neg (by simp [unknown])).trans (if_pos ⟨unknown, inBand⟩)

/-- Any other candidate is counted, below persistence (R145). -/
theorem evaluate_counts (other : l.state ≠ some (l.candidate x))
    (judged : ¬(l.state = none ∧ l.candidate x = .inBand)) (below : l.countToward (l.candidate x) < l.persistence) :
    l.evaluate x =
      ({ l with pendingDir := some (l.candidate x), pendingCount := l.countToward (l.candidate x) }, none) :=
  (if_neg other).trans ((if_neg judged).trans (if_neg (Nat.not_le.2 below)))

/-- At persistence it becomes the state (R145). -/
theorem evaluate_changes (other : l.state ≠ some (l.candidate x))
    (judged : ¬(l.state = none ∧ l.candidate x = .inBand)) (reached : l.persistence ≤ l.countToward (l.candidate x)) :
    l.evaluate x = (l.settled (some (l.candidate x)), some (l.candidate x)) :=
  (if_neg other).trans ((if_neg judged).trans (if_pos reached))

/-- The slot after an evaluation has nothing pending, or a candidate other than its state counted below persistence. -/
theorem evaluate_cases (l : LimitSlot) (x : Nat) :
    (∃ b, (l.evaluate x).1 = l.settled b) ∨
    (l.state ≠ some (l.candidate x) ∧ l.countToward (l.candidate x) < l.persistence ∧
      (l.evaluate x).1 =
        { l with pendingDir := some (l.candidate x), pendingCount := l.countToward (l.candidate x) }) := by
  by_cases same : l.state = some (l.candidate x)
  · exact .inl ⟨_, congrArg Prod.fst (evaluate_agrees same)⟩
  by_cases joins : l.state = none ∧ l.candidate x = .inBand
  · obtain ⟨unknown, inBand⟩ := joins
    exact .inl ⟨_, congrArg Prod.fst (evaluate_joins unknown inBand)⟩
  rcases Nat.lt_or_ge (l.countToward (l.candidate x)) l.persistence with below | reached
  · exact .inr ⟨same, below, congrArg Prod.fst (evaluate_counts same joins below)⟩
  · exact .inl ⟨_, congrArg Prod.fst (evaluate_changes same joins reached)⟩

end Evaluation

/-- Settles O30: the four outcomes of an evaluation. -/
theorem evaluationCountsTowardPersistence : Obligations.EvaluationCountsTowardPersistence := by
  intro l x c n
  exact ⟨evaluate_agrees, evaluate_joins,
    fun other judged => ⟨evaluate_counts other judged, evaluate_changes other judged⟩⟩

/-! ### The offer of a record -/

/-- The measurement faults are the codes 1 to 4 (R19). -/
theorem isFault_iff (status : Status) : status.isFault = true ↔ status.code.toNat ∈ [1, 2, 3, 4] := by
  cases status <;> decide

section Offer
variable {r : MeasRecord} {s : State} {i : Fin 16} {l : LimitSlot}

/-- A record that is not OK reaches no slot (R81, R140). -/
theorem offerAndFlag_notOk (notOk : r.status ≠ .ok) :
    offerAndFlag r s = if r.status.isFault then raise .entryFault s else s := by
  unfold offerAndFlag
  cases s.entry.slot with
  | none => rfl
  | some i => simp only [if_neg notOk]

/-- An OK record of an entry without a slot changes nothing (R140). -/
theorem offerAndFlag_unwatched (ok : r.status = .ok) (unwatched : s.entry.slot = none) : offerAndFlag r s = s := by
  rw [offerAndFlag, unwatched, ok]
  rfl

/-- An OK record is offered to its entry's slot (R81, R140). -/
theorem offerAndFlag_watched (ok : r.status = .ok) (watched : s.entry.slot = some i) :
    offerAndFlag r s = offerToSlot i r s := by
  rw [offerAndFlag, watched, ok]
  rfl

/-- A disabled slot ignores the offer (R140). -/
theorem offerToSlot_disabled (disabled : s.limits[i].enabled = false) : offerToSlot i r s = s :=
  if_neg (Bool.eq_false_iff.1 disabled)

/-- An evaluation without an event changes the slot alone (R144, R145). -/
theorem offerToSlot_quiet (enabled : s.limits[i].enabled = true) (quiet : s.limits[i].evaluate r.ratio = (l, none)) :
    offerToSlot i r s = { s with limits := s.limits.set i l } := by
  rw [offerToSlot, if_pos enabled, quiet]

/-- A change of state hands its event to the queue (R145, R146). -/
theorem offerToSlot_changed {b : Band} (enabled : s.limits[i].enabled = true)
    (changed : s.limits[i].evaluate r.ratio = (l, some b)) :
    offerToSlot i r s =
      handEvent { kind := b, slot := i, previous := s.limits[i].state, entryIndex := r.entryIndex, tag := r.tag,
                  seq := r.seq, ratio := r.ratio } { s with limits := s.limits.set i l } := by
  rw [offerToSlot, if_pos enabled, changed]

end Offer

/-- Settles O31: by the record's status, the entry's slot and the outcome of the slot's evaluation. -/
theorem recordIsOfferedToItsSlot : Obligations.RecordIsOfferedToItsSlot := by
  intro r s slot
  refine ⟨fun notOk => ?_, offerAndFlag_unwatched, fun i ok watched disabled => ?_,
    fun i l ok watched enabled quiet => ?_, fun i l b ok watched enabled changed => ?_⟩
  · simp only [offerAndFlag_notOk notOk, isFault_iff]
    rfl
  · rw [offerAndFlag_watched ok watched, offerToSlot_disabled disabled]
  · rw [offerAndFlag_watched ok watched, offerToSlot_quiet enabled quiet]
  · rw [offerAndFlag_watched ok watched, offerToSlot_changed enabled changed]
    rfl

/-! ### WRITE_SLOT -/

/-- A last check, after which the parse is done. -/
theorem Refuses.last {α : Type} {before : Nat} {p : Prop} [Decidable p] {a : α} :
    Refuses before [decide p] (if p then .ok a else .error (BitVec.ofNat 8 (before + 1))) := by
  intro d bad
  by_cases hp : p
  · rw [decide_eq_true hp] at bad
    cases bad
  · rw [decide_eq_false hp] at bad
    cases bad
    exact if_neg hp

/-- WRITE_SLOT's checks in order, the order of the bounds last (R137). -/
theorem parseWriteSlot_refuses (s : State) :
    let low := (s.p 2).toNat + 256 * (s.p 3).toNat + 65536 * (s.p 4).toNat
    let high := (s.p 5).toNat + 256 * (s.p 6).toNat + 65536 * (s.p 7).toNat
    Refuses 0 [(s.p 0).toNat < 16, (s.p 1).toNat ≤ 1, true, true, true, 1 ≤ (s.p 11).toNat ∧ (s.p 11).toNat ≤ 15,
      low ≤ high] (parseWriteSlot s) := by
  intro low high
  have low_eq : (join24 (s.p 4) (s.p 3) (s.p 2)).toNat = low := join24_toNat _ _ _
  have high_eq : (join24 (s.p 7) (s.p 6) (s.p 5)).toNat = high := join24_toNat _ _ _
  rw [← low_eq, ← high_eq]
  exact .checked indexArg_eq_none fun _ => .checked boolArg_eq_none fun _ => .unchecked (.unchecked (.unchecked
    (.checked rangeArg_eq_none fun _ => .last)))

/-- A slot that WRITE_SLOT writes has its configuration in range and nothing judged (R137, R138). -/
theorem parseWriteSlot_inRange {s : State} {i : Fin 16} {l : LimitSlot} (parses : parseWriteSlot s = .ok (i, l)) :
    (1 ≤ l.persistence ∧ l.persistence ≤ 15) ∧ l.low ≤ l.high ∧ l = l.settled none := by
  obtain ⟨_, -, parses⟩ := argAt_bind parses
  obtain ⟨_, -, parses⟩ := argAt_bind parses
  obtain ⟨p, inRange, parses⟩ := argAt_bind parses
  simp only [rangeArg, Option.ite_none_right_eq_some, Option.some.injEq] at inRange
  obtain ⟨bounds, rfl⟩ := inRange
  split at parses
  · next ordered =>
    cases parses
    exact ⟨bounds, ordered, rfl⟩
  · cases parses

/-- Three bytes as a word are their value. -/
theorem join24_eq_ofNat (high mid low : Byte) :
    BitVec.ofNat 24 (low.toNat + 256 * mid.toNat + 65536 * high.toNat) = join24 high mid low := by
  rw [← join24_toNat, BitVec.ofNat_toNat, BitVec.setWidth_eq]

/-- Settles O28: by the parse of WRITE_SLOT. -/
theorem writeSlotReplacesTheSlot : Obligations.WriteSlotReplacesTheSlot := by
  intro s writing low high hysteresis
  refine ⟨fun d bad => ?_, fun i enabled index flag least most ordered => ?_⟩ <;>
    refine congrArg Host.Outcome.next ?_
  · exact commandRow_firstBad (x := .writeSlot) writing rfl (parseWriteSlot_refuses s) bad
  · have inOrder : BitVec.ofNat 24 low ≤ BitVec.ofNat 24 high := by
      rw [join24_eq_ofNat, join24_eq_ofNat, BitVec.le_def, join24_toNat, join24_toNat]
      exact ordered
    exact commandRow_parsed (x := .writeSlot) writing rfl
      (parseWriteSlot_ok
        (l := { enabled := enabled, low := BitVec.ofNat 24 low, high := BitVec.ofNat 24 high,
                hysteresis := BitVec.ofNat 24 hysteresis, persistence := (s.p 11).toNat, state := none,
                pendingDir := none, pendingCount := 0 })
        index flag (join24_eq_ofNat _ _ _) (join24_eq_ofNat _ _ _) (join24_eq_ofNat _ _ _) rfl ⟨least, most⟩ inOrder)

end Sys2Proof.Machine
end

section
/-! SUPPORT. The limit slots (07) through every command: everything that a step can do to them, said once, and their law
(R134, R135). -/

namespace Sys2Proof.Machine

/-! ### What a rule does to the slots -/

/-- What one rule does to the table of limit slots. -/
inductive SlotMove : Vector LimitSlot 16 → Vector LimitSlot 16 → Prop where
  /-- A slot evaluates a ratio (R142 to R145). -/
  | evaluated (v : Vector LimitSlot 16) (i : Fin 16) (x : Nat) : SlotMove v (v.set i (v[i].evaluate x).1)
  /-- WRITE_SLOT writes a configuration in range, with nothing judged (R137, R138). -/
  | written (v : Vector LimitSlot 16) (i : Fin 16) (l : LimitSlot)
      (inRange : 1 ≤ l.persistence ∧ l.persistence ≤ 15) (ordered : l.low ≤ l.high) :
      SlotMove v (v.set i (l.settled none))
  /-- RESET_ENGINE clears the live state of every slot (R136). -/
  | cleared (v : Vector LimitSlot 16) : SlotMove v (mapTable LimitSlot.engineReset v)
  /-- A hard reset (R136). -/
  | hardReset (v : Vector LimitSlot 16) : SlotMove v (Vector.replicate 16 LimitSlot.reset)

/-- The slots of `s` have come from `v` by these rules alone. -/
def SlotsFrom (v : Vector LimitSlot 16) (s : State) : Prop := Relation.ReflTransGen SlotMove v s.limits

/-! ### Operations beside the slots -/

/-- A grant leaves the slots (R99). -/
theorem grantUnit_limits (who : Requester) (q : Request) (s : State) :
    (grantUnit who q (takeGrant who s)).1.limits = s.limits := by
  have taken : (takeGrant who s).limits = s.limits := by cases who <;> rfl
  rw [← taken]
  rcases grantUnit_cases who q (takeGrant who s) with ⟨-, e⟩ | ⟨-, e⟩ <;> rw [e]
  rcases cacheStep_cases { takeGrant who s with conv := beginMeasurement who q (takeGrant who s) } with
    e | ⟨slot, -, -, e⟩ <;> rw [e]

/-- A boundary leaves the slots, before an ended measurement is handed over. -/
theorem boundaryOutcome_limits (k : Boundary) (s : State) : (boundaryOutcome k s).1.limits = s.limits := by
  cases k with
  | windowEnd => exact windowEnds_keeps (P := fun out => out.1.limits = s.limits) rfl (fun _ => rfl) rfl
  | ignored | counted | refSettleExpiry | refTimeout | snsSettleExpiry | firstHalfEnd => rfl

/-- An edge leaves the slots, before an ended measurement is handed over. -/
theorem edgeOutcome_limits (k : Edge) (s : State) : (edgeOutcome k s).1.limits = s.limits := by
  cases k with
  | referenceComplete =>
    show (referenceCompletes s).1.limits = s.limits
    rcases Nat.lt_or_ge s.conv.wc Config.minWindow with short | long
    · rw [referenceCompletes_short short]
    · rw [referenceCompletes_long long]
  | ignored | counted | openingEdge | sensorOverrange => rfl

/-- A command that the state of the part refuses, or that does as it says, keeps any law (R191). -/
theorem refusable_keeps {P : State → Prop} {p : Prop} [Decidable p] {s : State} {r : CmdResult} {d : Byte} {x : Answer}
    (h : P s) (accepted : P x.state) : P (if p then refuse s r d else x).state := by
  split
  · exact h
  · exact accepted

/-- Arguments keep a law where they are refused, or parse into something that keeps it (R191). -/
theorem withArgs_keeps_parsed {P : State → Prop} {s : State} {α : Type} {parsed : Except Byte α} {f : α → Answer}
    (h : P s) (hf : ∀ a, parsed = .ok a → P (f a).state) : P (withArgs s parsed f).state := by
  rcases withArgs_cases s parsed f with ⟨d, -, e⟩ | ⟨a, parses, e⟩ <;> rw [e]
  · exact h
  · exact hf a parses

namespace SlotsFrom

variable {v : Vector LimitSlot 16} {s t : State}

/-- An operation beside the slots. -/
theorem beside (h : SlotsFrom v s) (e : t.limits = s.limits) : SlotsFrom v t := by
  unfold SlotsFrom
  rwa [e]

/-- An operation that is one of the slots' rules. -/
theorem moved (h : SlotsFrom v s) (m : SlotMove s.limits t.limits) : SlotsFrom v t := Relation.ReflTransGen.tail h m

/-! ### The scan controller -/

/-- An enabled slot evaluates the record's ratio, and hands its event over beside the slots (R140, R146). -/
theorem offerToSlot (i : Fin 16) (r : MeasRecord) (h : SlotsFrom v s) : SlotsFrom v (offerToSlot i r s) := by
  cases enabled : s.limits[i].enabled with
  | false => rwa [offerToSlot_disabled enabled]
  | true =>
    refine h.moved ?_
    have evaluates := SlotMove.evaluated s.limits i r.ratio
    rcases outcome : s.limits[i].evaluate r.ratio with ⟨l, _ | b⟩ <;> rw [outcome] at evaluates
    · rwa [offerToSlot_quiet enabled outcome]
    · rwa [offerToSlot_changed enabled outcome, handEvent_limits]

theorem offerAndFlag (r : MeasRecord) (h : SlotsFrom v s) : SlotsFrom v (offerAndFlag r s) := by
  by_cases ok : r.status = .ok
  · cases slot : s.entry.slot with
    | none => rwa [offerAndFlag_unwatched ok slot]
    | some i =>
      rw [offerAndFlag_watched ok slot]
      exact h.offerToSlot i r
  · rw [offerAndFlag_notOk ok]
    exact guarded_keeps h h

theorem afterRecord (r : MeasRecord) (h : SlotsFrom v s) : SlotsFrom v (afterRecord r s).1 := by
  rcases afterRecord_cases r s with ⟨-, -, e⟩ | ⟨i, -, -, e⟩ | ⟨-, e⟩ <;> rw [e] <;> exact h

theorem handleRecord (r : MeasRecord) (h : SlotsFrom v s) : SlotsFrom v (handleRecord r s).1 := by
  have offered := h.offerAndFlag r
  rcases handleRecord_cases r s with ⟨-, e⟩ | ⟨-, -, e⟩ | ⟨-, -, e⟩ <;> rw [e]
  · exact afterRecord r (offered.beside (by simp))
  · exact afterRecord r (offered.beside rfl)
  · exact offered.beside rfl

theorem closeScan (t : Termination) (h : SlotsFrom v s) : SlotsFrom v (closeScan t s) := h.beside (closeScan_limits s t)

theorem endScan (t : Termination) (h : SlotsFrom v s) : SlotsFrom v (endScan t s).1 := by
  rcases endScan_cases t s with ⟨-, e⟩ | ⟨-, e⟩ <;> rw [e] <;> exact h.closeScan t

theorem startAttempt (h : SlotsFrom v s) : SlotsFrom v (startAttempt s).1 := by
  rcases startAttempt_cases s with ⟨-, e⟩ | ⟨-, -, e⟩ | ⟨-, -, e⟩ <;> rw [e] <;> exact h

theorem keptByWalk (v : Vector LimitSlot 16) : KeptByWalk (SlotsFrom v) where
  reaches s h := by
    rcases reachEntry_cases s with ⟨-, e⟩ | ⟨-, e⟩ <;> rw [e]
    · exact h
    · exact h.handleRecord _
  handles r _ h := h.handleRecord r
  ends t _ h := h.endScan t
  attempts _ h := h.startAttempt

theorem deliver (who : Requester) (r : Result) (h : SlotsFrom v s) : SlotsFrom v (deliver who r s) := by
  cases who with
  | scan => exact takeScanResult_keeps (keptByWalk v) r s h
  | spot => exact h

/-! ### The unit -/

theorem arbitrate (h : SlotsFrom v s) : SlotsFrom v (arbitrate s) :=
  arbitrate_keeps (fun u who q _ _ _ h => h.beside (grantUnit_limits who q u))
    (fun u who q _ _ _ h => deliver who _ (h.beside (grantUnit_limits who q u))) s h

theorem finish (r : Result) (h : SlotsFrom v s) : SlotsFrom v (finish r s) := by
  have parked : SlotsFrom v (parkUnit s) := h
  unfold Machine.finish
  split
  · exact parked.arbitrate
  · exact (parked.deliver _ r).arbitrate

theorem settleUnit {out : State × Option Result} (h : SlotsFrom v out.1) : SlotsFrom v (settleUnit out) := by
  obtain ⟨u, _ | r⟩ := out
  · exact h
  · exact h.finish r

theorem takeBoundary (k : Boundary) (h : SlotsFrom v s) : SlotsFrom v (takeBoundary k s) := by
  rw [takeBoundary_eq]
  exact settleUnit (h.beside (boundaryOutcome_limits k s))

theorem takeEdge (k : Edge) (h : SlotsFrom v s) : SlotsFrom v (takeEdge k s) := by
  rw [takeEdge_eq]
  exact settleUnit (h.beside (edgeOutcome_limits k s))

/-! ### Starts, triggers and room reports -/

theorem attemptStart (h : SlotsFrom v s) : SlotsFrom v (attemptStart s).1 :=
  attemptStart_keeps (keptByWalk v).walkKeeps (fun _ h => h.arbitrate) s h.startAttempt

theorem takeTrigger (h : SlotsFrom v s) : SlotsFrom v (takeTrigger s) := by
  unfold Machine.takeTrigger
  split
  · exact h
  · exact h.attemptStart
  all_goals exact guarded_keeps h h

theorem reofferRecord (h : SlotsFrom v s) : SlotsFrom v (reofferRecord s) := by
  unfold Machine.reofferRecord
  split
  · exact h
  · next r _ =>
    have appended : SlotsFrom v (appendRecord (.measurement r) s) := h.beside (appendRecord_limits s _)
    exact guarded_keeps h
      (arbitrate (continueWalk_afterRecord_keeps (keptByWalk v) r _ rfl (afterRecord r appended)))

theorem roomReport (h : SlotsFrom v s) : SlotsFrom v (roomReport s) := by
  unfold Machine.roomReport
  split
  · exact h.attemptStart
  · exact h.reofferRecord
  all_goals exact h

theorem popResult (h : SlotsFrom v s) : SlotsFrom v (popResult s) := guarded_keeps (roomReport h) h

theorem takeLfBoundary (k : LfBoundary) (h : SlotsFrom v s) : SlotsFrom v (takeLfBoundary k s) := by
  cases k with
  | expiry => exact guarded_keeps h (takeTrigger h)
  | ignored | counted | unitEnd => exact h

theorem lfRow (k : LfBoundary) (h : SlotsFrom v s) : SlotsFrom v (lfRow k s) := guarded_keeps h (h.takeLfBoundary k)

theorem trigChanges (high : Bool) (h : SlotsFrom v s) : SlotsFrom v (trigChanges high s) :=
  guarded_keeps (guarded_keeps (guarded_keeps h (takeTrigger h)) h) h

/-! ### Commands -/

theorem startSingle (h : SlotsFrom v s) : SlotsFrom v (startSingle s).state := by
  unfold Machine.startSingle
  split
  · exact h
  · exact refusable_keeps h (attemptStart h)

theorem startTimed (h : SlotsFrom v s) : SlotsFrom v (startTimed s).state := by
  unfold Machine.startTimed
  split
  · exact h
  · exact attemptStart h

theorem armTrigger (h : SlotsFrom v s) : SlotsFrom v (armTrigger s).state := by
  unfold Machine.armTrigger
  split <;> exact h

theorem stopRun (h : SlotsFrom v s) : SlotsFrom v (stopRun s).state := by
  unfold Machine.stopRun
  split <;> exact h

theorem abortRun (h : SlotsFrom v s) : SlotsFrom v (abortRun s).state := by
  have cut : SlotsFrom v (cutOffScan s) := guarded_keeps h h
  unfold Machine.abortRun
  split
  iterate 3 exact h
  all_goals exact arbitrate (cut.closeScan .aborted)

theorem commit (h : SlotsFrom v s) : SlotsFrom v (commit s).state := by
  refine refusable_keeps h (refusable_keeps h ?_)
  dsimp only
  split <;> exact h

theorem spotCommand (h : SlotsFrom v s) : SlotsFrom v (spotCommand s).state := by
  unfold Machine.spotCommand
  split
  · exact h
  · refine withArgs_keeps h fun q => ?_
    split
    · exact arbitrate h
    · exact h

theorem cancelSpot (h : SlotsFrom v s) : SlotsFrom v (cancelSpot s).state := by
  unfold Machine.cancelSpot
  split
  · exact h
  · exact arbitrate h
  · exact arbitrate (guarded_keeps h h)

theorem setClock (h : SlotsFrom v s) : SlotsFrom v (setClock s).state := by
  unfold Machine.setClock
  split
  · exact h
  · exact withArgs_keeps h fun _ => h

/-- WRITE_SLOT writes a slot of the range that its parse checks (R137). -/
theorem writeSlot (h : SlotsFrom v s) : SlotsFrom v (writeSlot s).state := by
  refine withArgs_keeps_parsed h fun ⟨i, l⟩ parses => ?_
  obtain ⟨inRange, ordered, unjudged⟩ := parseWriteSlot_inRange parses
  rw [unjudged]
  exact h.moved (.written _ i l inRange ordered)

theorem runCommand (x : Command) (h : SlotsFrom v s) : SlotsFrom v (runCommand x s).state := by
  cases x with
  | writeSlot => exact h.writeSlot
  | resetEngine => exact h.moved (.cleared _)
  | startSingle => exact h.startSingle
  | startTimed => exact h.startTimed
  | armTrigger => exact h.armTrigger
  | stop => exact h.stopRun
  | abort => exact h.abortRun
  | commit => exact h.commit
  | spot => exact h.spotCommand
  | cancelSpot => exact h.cancelSpot
  | flushFifo => exact roomReport h
  | invalidateCache => exact h
  | setClock => exact h.setClock
  | setLength | writeEntry => exact refusable_keeps h (withArgs_keeps h fun _ => h)
  | writeChannel | writeReference | preloadWindow | readEntry | readChannel | readReference | readCache | readSlot =>
    exact withArgs_keeps h fun _ => h

/-! ### Register accesses -/

theorem takeCode (b : Byte) (h : SlotsFrom v s) : SlotsFrom v (takeCode b s) := by
  unfold Machine.takeCode
  split
  · next x _ => exact h.runCommand x
  · exact h

theorem stage (which : StagedByte) (b : Byte) (h : SlotsFrom v s) : SlotsFrom v (stage which b s) := by
  cases which <;> exact h

theorem writeParam (a : Addr) (b : Byte) (h : SlotsFrom v s) : SlotsFrom v (writeParam a b s) := by
  unfold Machine.writeParam
  split <;> exact h

theorem writeValue (a : Addr) (b : Byte) (h : SlotsFrom v s) : SlotsFrom v (writeValue a b s) := by
  unfold Machine.writeValue
  split
  · exact h.takeCode b
  iterate 12 exact h
  · exact h.writeParam a b

/-- A write row takes its byte, or nothing happens (log 3). -/
theorem writeRow (a : Addr) {f : State → State} (h : SlotsFrom v s) (hf : SlotsFrom v (f s)) :
    SlotsFrom v (writeRow a f s) :=
  guarded_keeps h hf

theorem beforeRead (a : Addr) (h : SlotsFrom v s) : SlotsFrom v (beforeRead a s) := by
  unfold Machine.beforeRead
  split <;> exact h

theorem afterRead (a : Addr) (h : SlotsFrom v s) : SlotsFrom v (afterRead a s) := by
  unfold Machine.afterRead
  split
  · exact h.popResult
  all_goals exact h

theorem readBytes (n : Nat) (h : SlotsFrom v s) : SlotsFrom v (readBytes n s) := by
  induction n generalizing s with
  | zero => exact h
  | succ n ih => exact ih (afterRead _ (h.beforeRead s.port.pointer))

theorem readRow (a : Addr) (h : SlotsFrom v s) : SlotsFrom v (readRow a s) := guarded_keeps h (h.readBytes _)

theorem accessRow (a : Addr) (x : Access) (h : SlotsFrom v s) : SlotsFrom v (accessRow a x s) := by
  cases x with
  | read => exact h.readRow a
  | write b => exact h.writeRow a (h.writeValue a b)

/-! ### Frames, pins and resets -/

theorem csFalls (h : SlotsFrom v s) : SlotsFrom v (csFalls s) := guarded_keeps (guarded_keeps h h) h

theorem csRises (reads : Nat) (h : SlotsFrom v s) : SlotsFrom v (csRises reads s) := by
  have taken : SlotsFrom v (if s.port.frame = .read then Machine.readBytes reads s else s) :=
    guarded_keeps h (h.readBytes reads)
  exact guarded_keeps h taken

theorem hardReset (h : SlotsFrom v s) (u : State) : SlotsFrom v (hardResetValues u) := h.moved (.hardReset _)

theorem rstRises (h : SlotsFrom v s) : SlotsFrom v (rstRises s) := guarded_keeps h (guarded_keeps h h)

theorem supplyCrosses (above : Bool) (h : SlotsFrom v s) : SlotsFrom v (supplyCrosses above s) :=
  guarded_keeps (guarded_keeps (h.hardReset _) (guarded_keeps h h)) h

/-! ### Every command -/

/-- No command does anything to the slots but by their rules. -/
theorem exec (i : Instr) (h : SlotsFrom v s) : ∃ t, exec i s = .next t ∧ SlotsFrom v t := by
  cases i
  case startSingle | startTimed | armTrigger | stop | abort | resetEngine | setLength | writeEntry | readEntry |
      commit | writeChannel | readChannel | writeReference | readReference | preloadWindow | readCache |
      invalidateCache | spot | cancelSpot | flushFifo | writeSlot | readSlot | setClock =>
    exact ⟨_, rfl, h.writeRow _ (h.runCommand _)⟩
  case unknownCommand code => exact ⟨_, rfl, h.writeRow _ (h.takeCode code)⟩
  case frameStart => exact ⟨_, rfl, h.csFalls⟩
  case addressByte => exact ⟨_, rfl, guarded_keeps h h⟩
  case frameEnd reads => exact ⟨_, rfl, h.csRises reads⟩
  case resultByte0Read | resultByte15Read | eventByte0Read | eventByte7Read | spotByte0Read | snapshotLowByteRead =>
    exact ⟨_, rfl, h.readRow _⟩
  case stagingByteWrite which b => exact ⟨_, rfl, h.writeRow _ (h.stage which b)⟩
  case scanCountWrite | scanIntervalWrite | windowMaxWrite | scanCtrlWrite | fifoThresholdWrite | cacheMaxAgeWrite |
      attnFlagsWrite | attnEnableWrite =>
    exact ⟨_, rfl, h.writeRow _ h⟩
  case registerWrite a x => exact ⟨_, rfl, h.accessRow a x⟩
  case hardReset => exact ⟨_, rfl, h.hardReset _⟩
  case resetRelease => exact ⟨_, rfl, h.rstRises⟩
  case powerOnReset above => exact ⟨_, rfl, h.supplyCrosses above⟩
  case trigEdge high => exact ⟨_, rfl, h.trigChanges high⟩
  case scanTimerUnit => exact ⟨_, rfl, guarded_keeps (h.lfRow _) (h.lfRow _)⟩
  case scanTimerExpiry => exact ⟨_, rfl, h.lfRow _⟩
  case lfPeriodBoundary => exact ⟨_, rfl, h.takeLfBoundary _⟩
  case grant => exact ⟨_, rfl, h.arbitrate⟩
  case refSettleExpiry | refTimeout | snsSettleExpiry | firstHalfEnd | windowEnd =>
    exact ⟨_, rfl, guarded_keeps h (h.takeBoundary _)⟩
  case openingEdge | referenceComplete | sensorOverrange => exact ⟨_, rfl, guarded_keeps h (h.takeEdge _)⟩
  case periodBoundary => exact ⟨_, rfl, h.takeBoundary _⟩
  case oscillatorEdge => exact ⟨_, rfl, h.takeEdge _⟩
  case heldStartRetry | pendingTriggerStart => exact ⟨_, rfl, guarded_keeps h h.attemptStart⟩
  case heldRecordReoffer => exact ⟨_, rfl, guarded_keeps h h.reofferRecord⟩
  case swap => exact ⟨_, rfl, guarded_keeps h h⟩

end SlotsFrom

/-- A step does nothing to the slots but by their rules. -/
theorem step_slotMoves {s t : State} (run : step s = .next t) :
    Relation.ReflTransGen SlotMove s.limits t.limits := by
  unfold step at run
  split at run
  · cases run
    exact .refl
  · next i rest _ =>
    have began : SlotsFrom s.limits { s with pending := rest } := .refl
    obtain ⟨u, run', moves⟩ := began.exec i
    cases run'.symm.trans run
    exact moves

/-! ### The law -/

/-- A slot with nothing pending needs its configuration in range alone (R134, R135). -/
theorem settled_law {l : LimitSlot} (b : Option Band) (inRange : 1 ≤ l.persistence ∧ l.persistence ≤ 15)
    (ordered : l.low ≤ l.high) : (l.settled b).Law := by
  obtain ⟨positive, most⟩ := inRange
  exact ⟨positive, iff_of_true rfl rfl, nofun, positive, most, ordered⟩

/-- A counted candidate is counted at least once (R145). -/
theorem countToward_pos (l : LimitSlot) (c : Band) : 0 < l.countToward c := by
  unfold LimitSlot.countToward
  split
  · exact Nat.succ_pos _
  · exact Nat.one_pos

/-- An evaluation keeps the law of its slot (R144, R145). -/
theorem LimitSlot.Law.evaluate {l : LimitSlot} (h : l.Law) (x : Nat) : (l.evaluate x).1.Law := by
  obtain ⟨-, -, -, positive, most, ordered⟩ := h
  rcases evaluate_cases l x with ⟨b, e⟩ | ⟨other, below, e⟩ <;> rw [e]
  · exact settled_law b ⟨positive, most⟩ ordered
  · refine ⟨below, ?_, ?_, positive, most, ordered⟩
    · exact iff_of_false (countToward_pos l _).ne' nofun
    · rintro b ⟨rfl⟩
      exact other

/-- The law of every slot of a table (R134, R135). -/
def TableLaw (v : Vector LimitSlot 16) : Prop := ∀ i : Fin 16, v[i].Law

theorem slotLaw_iff (s : State) : SlotLaw s ↔ TableLaw s.limits := Iff.rfl

/-- One slot of a table replaced. -/
theorem TableLaw.set {v : Vector LimitSlot 16} (h : TableLaw v) (i : Fin 16) {l : LimitSlot} (law : l.Law) :
    TableLaw (v.set i l) := by
  intro j
  rw [Fin.getElem_fin, Vector.getElem_set]
  split
  · exact law
  · exact h j

theorem getElem_mapTable {α : Type} {n : Nat} (f : α → α) (v : Vector α n) (i : Fin n) : (mapTable f v)[i] = f v[i] := by
  simp [mapTable]

/-- Every rule of the slots keeps their law. -/
theorem SlotMove.law {v w : Vector LimitSlot 16} (m : SlotMove v w) (h : TableLaw v) : TableLaw w := by
  cases m with
  | evaluated i x => exact h.set i ((h i).evaluate x)
  | written i l inRange ordered => exact h.set i (settled_law none inRange ordered)
  | cleared =>
    intro i
    obtain ⟨-, -, -, positive, most, ordered⟩ := h i
    rw [getElem_mapTable]
    exact settled_law none ⟨positive, most⟩ ordered
  | hardReset =>
    intro i
    rw [Fin.getElem_fin, Vector.getElem_replicate]
    decide

/-- Settles O55: a step changes the slots by their rules alone, and each of them keeps the law. -/
theorem stepKeepsSlotLaw : Obligations.StepKeepsSlotLaw := by
  intro s t law run
  have moves := step_slotMoves run
  rw [slotLaw_iff] at law ⊢
  generalize t.limits = w at moves ⊢
  induction moves with
  | refl => exact law
  | tail _ last ih => exact last.law ih

end Sys2Proof.Machine
end

section
/-! SUPPORT. The bytes of an event record (R156), the reads of the EVENT and SPOT windows (R109, R159, R161) and of the
snapshotted values (R24, R187), and INT_N (R168). -/

namespace Sys2Proof.Machine

/-! ### Event records -/

/-- Byte 0 of an event record (R156). -/
theorem eventKindByte_toNat (slot : Fin 16) (previous kind : BitVec 2) :
    (BitVec.ofNat 4 slot ++ previous ++ kind : Byte).toNat = kind.toNat + 4 * previous.toNat + 16 * slot.val := by
  simp only [append_toNat, BitVec.toNat_ofNat]
  omega

/-- Byte 1 of an event record (R156). -/
theorem eventEntryByte_toNat (entry : Fin 32) : (0#3 ++ BitVec.ofNat 5 entry : Byte).toNat = entry.val := by
  simp only [append_toNat, BitVec.toNat_ofNat]
  omega

/-- The eight bytes of an event record (R156). -/
theorem eventBytes_toNat (e : EventRecord) :
    (eventBytes (some e)).toList.map BitVec.toNat =
      [(eventKindCode e.kind).toNat + 4 * (stateCode e.previous).toNat + 16 * e.slot.val, e.entryIndex.val,
       e.tag.toNat, e.seq.toNat % 256, e.seq.toNat / 256,
       e.ratio % 256, e.ratio / 256 % 256, e.ratio / 65536 % 256] := by
  simp only [eventBytes, Vector.toList_mk, List.map_cons, List.map_nil, eventKindByte_toNat, eventEntryByte_toNat,
    byteOf_toNat, Nat.reducePow, Nat.div_one, upperByte_eq]

/-- The EMPTY event record is all zeros (R156). -/
theorem eventBytes_none_getElem (i : Fin 8) : (eventBytes none)[i] = 0#8 := Vector.getElem_replicate _

/-! ### Reads that latch or pop -/

/-- The low byte of the copy of a value is that of the value (R187). -/
theorem byteOf_zero_ofNat {w : Nat} (wide : 8 ≤ w) (n : Nat) :
    byteOf (BitVec.ofNat w n).toNat 0 = BitVec.ofNat 8 n := by
  rw [byteOf_zero, BitVec.ofNat_toNat, BitVec.setWidth_ofNat_of_le wide]

/-- A read row at its address: the copy is taken, the byte is read, and then what follows the byte is done (R183,
R185). -/
theorem readRow_taken {a : Addr} {s : State} (reading : ReadingAt a s) :
    readRow a s = afterRead a ((beforeRead a s).read (readValue (beforeRead a s) a)) := by
  rw [readRow_at a s reading, readByte_eq, reading.2, shiftOut_eq]

/-- A read row at its address, where the copy and the byte read of it are known and nothing follows the byte. -/
theorem readRow_copies {a : Addr} {s t : State} {v : Byte} (reading : ReadingAt a s) (copy : beforeRead a s = t)
    (value : readValue t a = v) (last : afterRead a (t.read v) = t.read v) :
    (.next (readRow a s) : Host.Outcome State Fault Refusal) = .next (t.read v) := by
  rw [readRow_taken reading, copy, value, last]

/-- EVENT byte 7 is read from the latch, and the latched event is popped; neither concerns the other (R161). -/
theorem exec_eventByte7Read {s : State} (reading : ReadingAt 0x47#7 s) :
    exec .eventByte7Read s = .next ((popEvent s).read (eventBytes s.events.latch)[7]) :=
  congrArg Host.Outcome.next (readRow_taken reading)

/-- A latch consumed: no pop (R161). -/
theorem popEvent_consumed {s : State} (consumed : s.events.consumed = true) : popEvent s = s := by
  rw [popEvent, EventQueue.popHead, if_pos consumed]

/-- A latch not consumed: the pop takes the head and consumes the latch (R161). -/
theorem popEvent_fresh {s : State} (fresh : s.events.consumed = false) :
    popEvent s = { s with events := { s.events with records := s.events.records.tail, consumed := true } } := by
  rw [popEvent, EventQueue.popHead, if_neg (Bool.eq_false_iff.1 fresh)]

/-- Settles O12: the layout by the record, each read by its copy, and the pop by the latch. -/
theorem otherWindowsLatch : Obligations.OtherWindowsLatch := by
  refine ⟨fun e => ?_, eventBytes_none_getElem, fun s => ⟨fun reading => ?event, fun reading consumed => ?consumed,
    fun reading fresh => ?fresh, fun reading => ?spot, fun reading => ?remaining, fun reading => ?seq,
    fun reading => ?mc, fun reading => ?wc⟩⟩
  · have bytes := eventBytes_toNat e
    obtain ⟨kind, _, previous, _⟩ := e
    cases kind <;> rcases previous with _ | _ | _ | _ <;> exact bytes
  case event => exact readRow_copies reading rfl rfl rfl
  case consumed => rw [exec_eventByte7Read reading, popEvent_consumed consumed]
  case fresh => rw [exec_eventByte7Read reading, popEvent_fresh fresh]
  case spot => exact readRow_copies reading rfl rfl rfl
  case remaining => exact readRow_copies reading rfl (byteOf_zero_ofNat (by decide) _) rfl
  case seq => exact readRow_copies reading rfl ((byteOf_zero _).trans (BitVec.ofNat_toNat 8 _)) rfl
  case mc => exact readRow_copies reading rfl (byteOf_zero_ofNat (by decide) _) rfl
  case wc => exact readRow_copies reading rfl (byteOf_zero_ofNat (by decide) _) rfl

/-! ### INT_N -/

/-- Two bytes share a bit where their conjunction is not zero. -/
theorem and_ne_zero_iff_shared_bit (x y : Byte) :
    x &&& y ≠ 0#8 ↔ ∃ i < 8, x.getLsbD i = true ∧ y.getLsbD i = true := by
  simp only [ne_eq, BitVec.eq_of_getLsbD_eq_iff, BitVec.getLsbD_and, BitVec.getLsbD_zero, not_forall,
    Bool.not_eq_false, Bool.and_eq_true, exists_prop]

/-- INT_N is asserted where a flag and its enable are both set (R168). -/
theorem intNAsserted_iff (s : State) :
    s.intNAsserted = true ↔ ∃ i < 8, s.attn.flags.getLsbD i = true ∧ s.attn.enables.getLsbD i = true :=
  bne_iff_ne.trans (and_ne_zero_iff_shared_bit s.attn.flags s.attn.enables)

/-- No flag, no INT_N (R168). -/
theorem intNAsserted_of_noFlags {s : State} (cleared : s.attn.flags = 0#8) : s.intNAsserted = false := by
  rw [State.intNAsserted, cleared, BitVec.zero_and]
  rfl

/-- Settles O36: the equivalence bit by bit, and each reset by the flags that it clears (R163, R194). -/
theorem intNFollowsFlagsAndEnables : Obligations.IntNFollowsFlagsAndEnables := by
  refine ⟨intNAsserted_iff, fun s t run => ?_, fun s t writing run => ?_⟩
  · cases run
    exact intNAsserted_of_noFlags rfl
  · have answers : exec .resetEngine s = .next ((engineReset s).answered 0x0F#8 .done 0) :=
      commandRow_answer .resetEngine writing rfl
    cases answers.symm.trans run
    exact intNAsserted_of_noFlags rfl

end Sys2Proof.Machine
end

section
/-! SUPPORT. The release from reset (09, R180; 10, R194, R195) and SET_CLOCK (09, R171). -/

namespace Sys2Proof.Machine

variable {s : State}

/-! ### The release from reset -/

/-- RST_N rises with a good supply: the part leaves reset, and the TRIG detector takes the pin's level (R180, R194). -/
theorem rstRises_released (low : s.pins.rstLow = true) (good : s.pins.supplyGood = true) :
    rstRises s =
      { s with pins := { s.pins with rstLow := false }, time := { s.time with trigLevel := s.pins.trigHigh } } := by
  rw [rstRises, if_pos low]
  exact if_pos good

/-- RST_N rises below the threshold: the supply still holds the part in reset (R195). -/
theorem rstRises_held (low : s.pins.rstLow = true) (bad : s.pins.supplyGood = false) :
    rstRises s = { s with pins := { s.pins with rstLow := false } } := by
  rw [rstRises, if_pos low]
  exact if_neg (Bool.eq_false_iff.1 bad)

/-- The supply rises from below the threshold: the part leaves reset unless RST_N is low (R195). -/
theorem supplyRises (bad : s.pins.supplyGood = false) :
    supplyCrosses true s =
      if s.pins.rstLow then { s with pins := { s.pins with supplyGood := true } }
      else release { s with pins := { s.pins with supplyGood := true } } := by
  have crosses : ¬s.pins.supplyGood = true := Bool.eq_false_iff.1 bad
  rw [supplyCrosses, if_neg crosses]
  rfl

/-- Settles O5: by the pin that rises, and whether the other still holds the part. -/
theorem releaseTakesTheTrigLevel : Obligations.ReleaseTakesTheTrigLevel := by
  intro s
  refine ⟨fun low good => ?_, fun low bad => ?_, fun high bad => ?_, fun low bad => ?_⟩ <;>
    refine congrArg Host.Outcome.next ?_
  · exact rstRises_released low good
  · exact rstRises_held low bad
  · exact (supplyRises bad).trans (if_neg (Bool.eq_false_iff.1 high))
  · exact (supplyRises bad).trans (if_pos low)

/-! ### SET_CLOCK -/

theorem clockRefusal_notIdle (busy : s.ctl.state ≠ .idle) : clockRefusal s = some 1 := if_pos busy

theorem clockRefusal_spot (idle : s.ctl.state = .idle) (spot : s.spot.state ≠ .none) : clockRefusal s = some 2 := by
  rw [clockRefusal, if_neg (not_not_intro idle), if_pos spot]

theorem clockRefusal_unit (idle : s.ctl.state = .idle) (noSpot : s.spot.state = .none)
    (measuring : s.conv.phase ≠ .idle) : clockRefusal s = some 3 := by
  rw [clockRefusal, if_neg (not_not_intro idle), if_neg (not_not_intro noSpot), if_pos measuring]

theorem clockRefusal_none (idle : s.ctl.state = .idle) (noSpot : s.spot.state = .none) (free : s.conv.phase = .idle) :
    clockRefusal s = none := by
  rw [clockRefusal, if_neg (not_not_intro idle), if_neg (not_not_intro noSpot), if_neg (not_not_intro free)]

/-- A refusal by state is SET_CLOCK's answer, whatever its argument (R171). -/
theorem setClock_refused {d : Byte} (refused : clockRefusal s = some d) : setClock s = refuse s .refusedState d := by
  rw [setClock, refused]

/-- With nothing in the way, SET_CLOCK goes by its argument (R171). -/
theorem setClock_clear (clear : clockRefusal s = none) :
    setClock s = withArgs s (parseSetClock s) fun src =>
      done { s with time := { s.time with source := src }, cache := s.cache.invalidateAll } (s.p 0) := by
  rw [setClock, clear]

/-- A source code above 1 is refused at position 1 (R171). -/
theorem parseSetClock_bad (out : 1 < (s.p 0).toNat) : parseSetClock s = .error 1 := by
  rw [parseSetClock, boolArg_none out]
  rfl

/-- Source code 1 is HF and 0 is LF (R171). -/
theorem parseSetClock_ok (inRange : (s.p 0).toNat ≤ 1) : parseSetClock s = .ok (if s.p 0 = 1 then .hf else .lf) := by
  rw [parseSetClock]
  rcases Nat.le_one_iff_eq_zero_or_eq_one.1 inRange with zero | one
  · rw [boolArg_some (x := false) zero.symm, show s.p 0 = 0#8 from BitVec.eq_of_toNat_eq zero]
    rfl
  · rw [boolArg_some (x := true) one.symm, show s.p 0 = 1#8 from BitVec.eq_of_toNat_eq one]
    rfl

/-- Settles O32: by the first refusal by state, and then by the argument. -/
theorem setClockSelectsTheSource : Obligations.SetClockSelectsTheSource := by
  intro s writing
  have refuses : ∀ {d : Byte}, clockRefusal s = some d →
      exec .setClock s = .next (s.answered 0x48#8 .refusedState d) := fun refused =>
    commandRow_answer .setClock writing (setClock_refused refused)
  refine ⟨fun busy => refuses (clockRefusal_notIdle busy), fun idle spot => refuses (clockRefusal_spot idle spot),
    fun idle noSpot measuring => refuses (clockRefusal_unit idle noSpot measuring), fun idle noSpot free => ?_⟩
  have clear := setClock_clear (clockRefusal_none idle noSpot free)
  exact ⟨fun out => congrArg Host.Outcome.next
      (commandRow_badArg (x := .setClock) writing clear (parseSetClock_bad out)),
    fun inRange => congrArg Host.Outcome.next
      (commandRow_parsed (x := .setClock) writing clear (parseSetClock_ok inRange))⟩

end Sys2Proof.Machine
end

section
/-! SUPPORT. The queue through every row (log 1): no row adds or takes a waiting command (R190, R191). -/

namespace Sys2Proof.Machine

/-- A row whose condition does not hold leaves the queue, and so one that does where its effect leaves it (log 3). -/
theorem guarded_pending {c : Prop} [Decidable c] {s t : State} (effect : t.pending = s.pending) :
    (if c then t else s).pending = s.pending :=
  guarded_keeps (P := fun u => u.pending = s.pending) rfl effect

/-! ### Register accesses -/

theorem takeCode_pending (v : Byte) (s : State) : (takeCode v s).pending = s.pending := by
  unfold takeCode
  split
  · next x _ => exact (runCommand_frame x s).pending
  · rfl

theorem stage_pending (which : StagedByte) (v : Byte) (s : State) : (stage which v s).pending = s.pending := by
  cases which <;> rfl

theorem writeParam_pending (a : Addr) (v : Byte) (s : State) : (writeParam a v s).pending = s.pending := by
  unfold writeParam
  split <;> rfl

theorem writeValue_pending (a : Addr) (v : Byte) (s : State) : (writeValue a v s).pending = s.pending := by
  unfold writeValue
  split
  · exact takeCode_pending v s
  iterate 12 rfl
  · exact writeParam_pending a v s

/-- A write row leaves the queue where what it writes does. -/
theorem writeRow_pending (a : Addr) {f : State → State} {s : State} (written : (f s).pending = s.pending) :
    (writeRow a f s).pending = s.pending :=
  guarded_pending (t := advance (f s)) written

theorem commandRow_pending (x : Command) (s : State) : (commandRow x (runCommand x) s).pending = s.pending :=
  writeRow_pending _ (runCommand_frame x s).pending

theorem beforeRead_pending (a : Addr) (s : State) : (beforeRead a s).pending = s.pending := by
  unfold beforeRead
  split <;> rfl

/-- RESULT byte 15 may pop, with the room report that follows, and EVENT byte 7 may pop; neither concerns the queue. -/
theorem afterRead_pending (a : Addr) (s : State) : (afterRead a s).pending = s.pending := by
  unfold afterRead
  split
  · exact (popResult_frame s).pending
  · rfl
  · rfl

theorem readByte_pending (s : State) : (readByte s).pending = s.pending := by
  rw [readByte_eq, afterRead_pending]
  exact beforeRead_pending s.port.pointer s

theorem readBytes_pending (n : Nat) (s : State) : (readBytes n s).pending = s.pending := by
  induction n generalizing s with
  | zero => rfl
  | succ n ih => exact (ih (readByte s)).trans (readByte_pending s)

theorem readRow_pending (a : Addr) (s : State) : (readRow a s).pending = s.pending :=
  guarded_pending (readBytes_pending _ s)

theorem accessRow_pending (a : Addr) (x : Access) (s : State) : (accessRow a x s).pending = s.pending := by
  cases x with
  | read => exact readRow_pending a s
  | write v => exact writeRow_pending a (writeValue_pending a v s)

/-! ### Frames, pins and clocks -/

theorem csFalls_pending (s : State) : (csFalls s).pending = s.pending := by
  unfold csFalls
  dsimp only
  split
  · rfl
  · split <;> rfl

theorem csRises_pending (reads : Nat) (s : State) : (csRises reads s).pending = s.pending := by
  unfold csRises
  exact guarded_pending (guarded_pending (readBytes_pending reads s))

theorem rstRises_pending (s : State) : (rstRises s).pending = s.pending := by
  unfold rstRises
  dsimp only
  split
  · split <;> rfl
  · rfl

theorem supplyCrosses_pending (above : Bool) (s : State) : (supplyCrosses above s).pending = s.pending := by
  unfold supplyCrosses
  dsimp only
  split
  · rfl
  · split
    · split <;> rfl
    · rfl

theorem trigChanges_pending (high : Bool) (s : State) : (trigChanges high s).pending = s.pending := by
  unfold trigChanges deliverEdge
  dsimp only
  split
  · rfl
  · split
    · rfl
    · exact guarded_pending (takeTrigger_frame _).pending

theorem lfRow_pending (k : LfBoundary) (s : State) : (lfRow k s).pending = s.pending :=
  guarded_pending (takeLfBoundary_frame k s).pending

theorem unitRow_pending (s : State) : (unitRow s).pending = s.pending := by
  unfold unitRow
  split <;> exact lfRow_pending _ s

/-! ### Every row -/

/-- Settles O2: row by row, each by what its operation leaves of the queue. -/
theorem everyCommandCompletes : Obligations.EveryCommandCompletes := by
  intro c s
  cases c
  case startSingle | startTimed | armTrigger | stop | abort | resetEngine | setLength | writeEntry | readEntry |
      commit | writeChannel | readChannel | writeReference | readReference | preloadWindow | readCache |
      invalidateCache | spot | cancelSpot | flushFifo | writeSlot | readSlot | setClock =>
    exact ⟨_, rfl, commandRow_pending _ s⟩
  case unknownCommand code => exact ⟨_, rfl, writeRow_pending _ (takeCode_pending code s)⟩
  case frameStart => exact ⟨_, rfl, csFalls_pending s⟩
  case addressByte b => exact ⟨_, rfl, guarded_pending rfl⟩
  case frameEnd reads => exact ⟨_, rfl, csRises_pending reads s⟩
  case resultByte0Read | resultByte15Read | eventByte0Read | eventByte7Read | spotByte0Read | snapshotLowByteRead =>
    exact ⟨_, rfl, readRow_pending _ s⟩
  case stagingByteWrite which v => exact ⟨_, rfl, writeRow_pending _ (stage_pending which v s)⟩
  case scanCountWrite | scanIntervalWrite | windowMaxWrite | scanCtrlWrite | fifoThresholdWrite | cacheMaxAgeWrite |
      attnFlagsWrite | attnEnableWrite =>
    exact ⟨_, rfl, writeRow_pending _ rfl⟩
  case registerWrite a x => exact ⟨_, rfl, accessRow_pending a x s⟩
  case hardReset => exact ⟨_, rfl, rfl⟩
  case resetRelease => exact ⟨_, rfl, rstRises_pending s⟩
  case powerOnReset above => exact ⟨_, rfl, supplyCrosses_pending above s⟩
  case trigEdge high => exact ⟨_, rfl, trigChanges_pending high s⟩
  case scanTimerUnit => exact ⟨_, rfl, unitRow_pending s⟩
  case scanTimerExpiry => exact ⟨_, rfl, lfRow_pending _ s⟩
  case grant => exact ⟨_, rfl, (arbitrate_frame s).pending⟩
  case refSettleExpiry | refTimeout | snsSettleExpiry | firstHalfEnd | windowEnd =>
    exact ⟨_, rfl, guarded_pending (takeBoundary_frame _ s).pending⟩
  case openingEdge | referenceComplete | sensorOverrange =>
    exact ⟨_, rfl, guarded_pending (takeEdge_frame _ s).pending⟩
  case heldStartRetry | pendingTriggerStart => exact ⟨_, rfl, guarded_pending (attemptStart_frame s).pending⟩
  case heldRecordReoffer => exact ⟨_, rfl, guarded_pending (reofferRecord_frame s).pending⟩
  case swap => exact ⟨_, rfl, guarded_pending rfl⟩
  case periodBoundary => exact ⟨_, rfl, (takeBoundary_frame _ s).pending⟩
  case oscillatorEdge => exact ⟨_, rfl, (takeEdge_frame _ s).pending⟩
  case lfPeriodBoundary => exact ⟨_, rfl, (takeLfBoundary_frame _ s).pending⟩

end Sys2Proof.Machine
end

section
/-! SUPPORT. What a data byte of a write frame reaches (10.5): the staged registers (R186), PARAM (R192), the addresses
that ignore it (R185), and CMD with a code that names no command (R190). -/

namespace Sys2Proof.Machine

variable {s : State}

/-! ### Staged registers -/

/-- Two bytes as a word are their value. -/
theorem join16_eq_ofNat (high low : Byte) : join16 high low = BitVec.ofNat 16 (256 * high.toNat + low.toNat) := by
  rw [Nat.add_comm, ← join16_toNat, BitVec.ofNat_toNat, BitVec.setWidth_eq]

/-- SCAN_INTERVAL takes 0 as 1 (R177). -/
theorem setScanInterval_eq (v : BitVec 16) (s : State) :
    setScanInterval v s = { s with time := { s.time with scanInterval := BitVec.ofNat 16 (max 1 v.toNat) } } := by
  have floor : (if v = 0 then 1 else v) = BitVec.ofNat 16 (max 1 v.toNat) := by
    split
    · next zero => rw [zero]; rfl
    · next nonzero => rw [max_eq_right (by bv_omega), BitVec.ofNat_toNat, BitVec.setWidth_eq]
  rw [setScanInterval, floor]

/-- WINDOW_MAX takes a value below 16 as 16 (R173). -/
theorem setWindowMax_eq (v : BitVec 24) (s : State) :
    setWindowMax v s = { s with time := { s.time with windowMax := BitVec.ofNat 24 (max 16 v.toNat) } } := by
  have floor : (if v.toNat < Config.minWindow then 16 else v) = BitVec.ofNat 24 (max 16 v.toNat) := by
    split
    · next short => rw [max_eq_left short.le]; rfl
    · next long => rw [max_eq_right (Nat.le_of_not_lt long), BitVec.ofNat_toNat, BitVec.setWidth_eq]
  rw [setWindowMax, floor]

/-- Settles O33: a staging byte alone, and each register by the value that its bytes make and its floor. -/
theorem stagedRegistersTakeEffectWhole : Obligations.StagedRegistersTakeEffectWhole := by
  intro s v
  refine ⟨fun h => ?_, fun h => ?_, fun h => ?_, fun h => ?_, fun h => ?count, fun h => ?interval,
    fun h => ?windowMax⟩ <;>
    refine congrArg Host.Outcome.next ((writeRow_taken _ _ s h).trans ?_)
  case count => rw [completeScanCount, setScanCount, join16_eq_ofNat]
  case interval => rw [completeScanInterval, setScanInterval_eq, join16_toNat, Nat.add_comm]
  case windowMax =>
    have value : (join24 v s.port.stagedMaxMid s.port.stagedMaxLow).toNat =
        65536 * v.toNat + 256 * s.port.stagedMaxMid.toNat + s.port.stagedMaxLow.toNat := by
      rw [join24_toNat]
      omega
    rw [completeWindowMax, setWindowMax_eq, value]
  all_goals rfl

/-! ### PARAM, and writes that are ignored -/

/-- The address of byte `i` of a window. -/
theorem windowAddr_toNat (base : Addr) (i : Nat) (inside : base.toNat + i < 128) :
    (base + BitVec.ofNat 7 i).toNat = base.toNat + i := by
  rw [BitVec.toNat_add, BitVec.toNat_ofNat, Nat.add_mod_mod, Nat.mod_eq_of_lt inside]

/-- A write of an address that no other row writes is PARAM's or ignored (R185, R192). -/
theorem writeValue_plain {a : Addr} (plain : a ∉ ownWriteRows) (v : Byte) (s : State) :
    writeValue a v s = writeParam a v s := by
  have noRow : ∀ n, a.toNat = n → BitVec.ofNat 7 n ∉ ownWriteRows := by
    rintro _ rfl
    rwa [BitVec.ofNat_toNat, BitVec.setWidth_eq]
  unfold writeValue
  split
  iterate 13 next e => exact absurd (by decide) (noRow _ e)
  rfl

/-- A read-only address, or one that holds nothing, ignores a write (R185). -/
theorem writeValue_ignored {a : Addr} (plain : a ∉ ownWriteRows) (outside : ¬(0x20#7 ≤ a ∧ a ≤ 0x2F#7)) (v : Byte)
    (s : State) : writeValue a v s = s :=
  (writeValue_plain plain v s).trans (dif_neg outside)

/-- A write in PARAM replaces its byte (R192). -/
theorem writeValue_param (i : Fin 16) (v : Byte) (s : State) :
    writeValue (0x20#7 + BitVec.ofNat 7 i) v s = s.withParam (s.port.param.set i v) := by
  have address : (0x20#7 + BitVec.ofNat 7 i).toNat = 0x20 + i.val := windowAddr_toNat _ _ (by simp; omega)
  have plain : 0x20#7 + BitVec.ofNat 7 i ∉ ownWriteRows := by
    intro row
    have below : ∀ a ∈ ownWriteRows, a.toNat < 0x20 := by decide
    have := below _ row
    omega
  rw [writeValue_plain plain, writeParam, dif_pos (by omega)]
  simp only [address, Nat.add_sub_cancel_left]

/-! ### Codes that name no command -/

/-- The codes of the command table, as numbers (10.6). -/
theorem commandOfCode_eq_none {v : Byte}
    (unknown : v.toNat ∉ [0x01, 0x02, 0x03, 0x04, 0x05, 0x0F, 0x10, 0x11, 0x12, 0x13, 0x20, 0x21, 0x22, 0x23, 0x28,
      0x29, 0x2A, 0x30, 0x31, 0x38, 0x40, 0x41, 0x48]) : commandOfCode v = none := by
  refine List.find?_eq_none.2 fun c _ code => unknown ?_
  rw [← eq_of_beq code]
  cases c <;> decide

/-- A code that names no command is answered and does nothing else (R190). -/
theorem takeCode_unknown {v : Byte} (unknown : commandOfCode v = none) (s : State) :
    takeCode v s = complete v (unknownCode s) := by
  rw [takeCode, unknown]

/-- Settles O35: by the address, and for UNKNOWN_COMMAND by the command table. -/
theorem otherWritesReachParamOrNothing : Obligations.OtherWritesReachParamOrNothing := by
  intro s v
  refine ⟨fun i writing => ?_, fun a writing plain outside => ?_, fun writing unknown => ?_⟩ <;>
    refine congrArg Host.Outcome.next ((writeRow_taken _ _ s writing).trans ?_)
  · rw [writeValue_param]
    rfl
  · rw [writeValue_ignored plain outside]
  · have next : s.port.pointer + 1 = 0x01#7 := by rw [writing.2]; rfl
    rw [takeCode_unknown (commandOfCode_eq_none unknown), State.answered, ← next]
    rfl

end Sys2Proof.Machine
end

section
/-! SUPPORT. The register map as a read shows it (10.5, R185): the windows, the status registers (R188), the register
map after a hard reset, and reads taken one data byte at a time (R183). -/

namespace Sys2Proof.Machine

variable {s : State}

/-! ### The windows -/

/-- From 0x20 on a read shows PARAM, the bytes of the three latches, or 0 (10.5). -/
theorem readValue_upper {a : Addr} (upper : 0x20 ≤ a.toNat) :
    readValue s a =
      if h : 0x20 ≤ a.toNat ∧ a.toNat ≤ 0x2F then s.port.param[a.toNat - 0x20]
      else if h : 0x30 ≤ a.toNat ∧ a.toNat ≤ 0x3F then (resultBytes s.fifo.latch)[a.toNat - 0x30]
      else if h : 0x40 ≤ a.toNat ∧ a.toNat ≤ 0x47 then (eventBytes s.events.latch)[a.toNat - 0x40]
      else if h : 0x50 ≤ a.toNat ∧ a.toNat ≤ 0x5F then (spotBytes s.spot.latch)[a.toNat - 0x50]
      else 0 := by
  unfold readValue
  split
  iterate 32 omega
  rfl

theorem readValue_param (i : Fin 16) : readValue s (0x20#7 + BitVec.ofNat 7 i) = s.port.param[i] := by
  have address : (0x20#7 + BitVec.ofNat 7 i).toNat = 0x20 + i.val := windowAddr_toNat _ _ (by simp; omega)
  rw [readValue_upper (by omega), dif_pos (by omega)]
  simp only [address, Nat.add_sub_cancel_left]
  rfl

theorem readValue_result (i : Fin 16) : readValue s (0x30#7 + BitVec.ofNat 7 i) = (resultBytes s.fifo.latch)[i] := by
  have address : (0x30#7 + BitVec.ofNat 7 i).toNat = 0x30 + i.val := windowAddr_toNat _ _ (by simp; omega)
  rw [readValue_upper (by omega), dif_neg (by omega), dif_pos (by omega)]
  simp only [address, Nat.add_sub_cancel_left]
  rfl

theorem readValue_event (i : Fin 8) : readValue s (0x40#7 + BitVec.ofNat 7 i) = (eventBytes s.events.latch)[i] := by
  have address : (0x40#7 + BitVec.ofNat 7 i).toNat = 0x40 + i.val := windowAddr_toNat _ _ (by simp; omega)
  rw [readValue_upper (by omega), dif_neg (by omega), dif_neg (by omega), dif_pos (by omega)]
  simp only [address, Nat.add_sub_cancel_left]
  rfl

theorem readValue_spot (i : Fin 16) : readValue s (0x50#7 + BitVec.ofNat 7 i) = (spotBytes s.spot.latch)[i] := by
  have address : (0x50#7 + BitVec.ofNat 7 i).toNat = 0x50 + i.val := windowAddr_toNat _ _ (by simp; omega)
  rw [readValue_upper (by omega), dif_neg (by omega), dif_neg (by omega), dif_neg (by omega), dif_pos (by omega)]
  simp only [address, Nat.add_sub_cancel_left]
  rfl

/-- The addresses that hold nothing read 0 (10.5). -/
theorem readValue_hole {a : Addr} (hole : 0x48#7 ≤ a ∧ a ≤ 0x4F#7 ∨ 0x60#7 ≤ a) : readValue s a = 0#8 := by
  have address : 0x48 ≤ a.toNat ∧ a.toNat ≤ 0x4F ∨ 0x60 ≤ a.toNat := hole
  rw [readValue_upper (by omega), dif_neg (by omega), dif_neg (by omega), dif_neg (by omega), dif_neg (by omega)]
  rfl

/-! ### The map after a hard reset -/

/-- The copies of a hard reset's values are these values again, so no read of them changes what it reads. -/
theorem beforeRead_reset (a : Addr) : beforeRead a State.reset = State.reset := by
  unfold beforeRead
  split <;> rfl

/-- Settles O3: PARAM, the EMPTY latches and the holes read 0, and the registers below 0x20 are finitely many. -/
theorem registerMapAfterReset : Obligations.RegisterMapAfterReset := by
  intro a
  rw [beforeRead_reset]
  rcases Nat.lt_or_ge a.toNat 0x20 with lower | upper
  · have registers : ∀ n < 0x20, readValue State.reset (BitVec.ofNat 7 n) =
        if BitVec.ofNat 7 n = 0x07#7 then 0x10#8
        else if BitVec.ofNat 7 n = 0x0B#7 ∨ BitVec.ofNat 7 n = 0x14#7 then 0x04#8
        else if 0x16#7 ≤ BitVec.ofNat 7 n ∧ BitVec.ofNat 7 n ≤ 0x18#7 then 0xFF#8
        else 0x00#8 := by decide
    have register := registers a.toNat lower
    rwa [BitVec.ofNat_toNat, BitVec.setWidth_eq] at register
  · have zeros : readValue State.reset a = 0#8 := by
      rw [readValue_upper upper]
      split_ifs
      iterate 4 exact Vector.getElem_replicate _
      rfl
    rw [zeros, if_neg (by bv_omega), if_neg (by bv_omega), if_neg (by bv_omega)]

/-! ### Bytes made of fields -/

/-- SCAN_CTRL's three fields as a byte (R189). -/
theorem scanCtrlByte_eq (c : ScanCtrl) :
    c.byte = BitVec.ofNat 8 (c.discard.toNat + 2 * c.faultStop.toNat + 4 * c.falling.toNat) := by
  apply BitVec.eq_of_toNat_eq
  rw [ScanCtrl.byte]
  simp only [append_toNat, BitVec.toNat_ofBool, BitVec.toNat_ofNat]
  have := Bool.toNat_le c.discard
  have := Bool.toNat_le c.faultStop
  have := Bool.toNat_le c.falling
  omega

theorem sourceByte_eq (x : Source) : x.byte = if x = .hf then 1#8 else 0#8 := by cases x <;> rfl

/-! ### Status registers -/

/-- ENGINE_STATE's fields (R188). -/
theorem engineState_fields (c : Controller) :
    (engineState c).extractLsb' 0 2 = c.state.code.extractLsb' 0 2 ∧
    (engineState c).getLsbD 2 = c.state.code.getLsbD 2 ∧ (engineState c).extractLsb' 3 2 = c.mode.code ∧
    (engineState c).getLsbD 5 = c.stopRequested ∧ (engineState c).getLsbD 6 = c.pendingTrigger ∧
    (engineState c).getLsbD 7 = c.grantOutstanding := by
  simp only [engineState, BitVec.getLsbD_append, BitVec.getLsbD_ofBool]
  refine ⟨BitVec.extractLsb'_append_eq_of_add_le (by decide), rfl, ?_, rfl, rfl, rfl⟩
  rw [BitVec.extractLsb'_append_eq_of_le (by decide), BitVec.extractLsb'_append_eq_right]

/-- ENGINE_ENTRY's fields (R188). -/
theorem engineEntry_fields (s : State) :
    (engineEntry s).extractLsb' 0 5 = BitVec.ofNat 5 s.ctl.entryIndex ∧
    (engineEntry s).getLsbD 5 = s.list.active.code.getLsbD 0 ∧ (engineEntry s).getLsbD 6 = s.list.pendingFlag ∧
    (engineEntry s).getLsbD 7 = false := by
  simp only [engineEntry, BitVec.getLsbD_append, BitVec.getLsbD_ofBool]
  exact ⟨BitVec.extractLsb'_append_eq_right, rfl, rfl, rfl⟩

/-- CONV_STATE's fields (R188). -/
theorem convState_fields (s : State) :
    (convState s).extractLsb' 0 3 = s.conv.phase.code ∧ (convState s).extractLsb' 3 2 = holderCode s.arb.holder ∧
    (convState s).extractLsb' 5 2 = s.spot.state.code ∧ (convState s).getLsbD 7 = false := by
  simp only [convState, BitVec.getLsbD_append]
  refine ⟨BitVec.extractLsb'_append_eq_right, ?_, ?_, rfl⟩
  · rw [BitVec.extractLsb'_append_eq_of_le (by decide), BitVec.extractLsb'_append_eq_right]
  · rw [BitVec.extractLsb'_append_eq_of_le (by decide), BitVec.extractLsb'_append_eq_of_le (by decide),
      BitVec.extractLsb'_append_eq_right]

/-- Settles O10: each field by its place, its code by the value it shows, and the writes by their addresses. -/
theorem statusRegistersShowTheirFields : Obligations.StatusRegistersShowTheirFields := by
  intro s
  refine ⟨?engineState, ?engineEntry, ?convState, fun a member v writing => ?ignored⟩
  case engineState =>
    obtain ⟨state, hold, mode, flags⟩ := engineState_fields s.ctl
    refine ⟨state.trans ?_, hold.trans ?_, mode.trans ?_, flags⟩
    · cases s.ctl.state <;> rfl
    · cases s.ctl.state <;> rfl
    · cases s.ctl.mode <;> rfl
  case engineEntry =>
    obtain ⟨entry, bank, flags⟩ := engineEntry_fields s
    refine ⟨(congrArg BitVec.toNat entry).trans (Nat.mod_eq_of_lt s.ctl.entryIndex.isLt), bank.trans ?_, flags⟩
    cases s.list.active <;> rfl
  case convState =>
    obtain ⟨phase, holder, spot, top⟩ := convState_fields s
    refine ⟨phase.trans ?_, holder.trans ?_, spot.trans ?_, top⟩
    · cases s.conv.phase <;> rfl
    · rcases s.arb.holder with _ | _ | _ <;> rfl
    · cases s.spot.state <;> rfl
  case ignored =>
    have readOnly : ∀ b ∈ [0x03#7, 0x04#7, 0x05#7], b ∉ ownWriteRows ∧ ¬(0x20#7 ≤ b ∧ b ≤ 0x2F#7) := by decide
    obtain ⟨plain, outside⟩ := readOnly a member
    refine congrArg Host.Outcome.next ((writeRow_taken _ _ s writing).trans ?_)
    rw [writeValue_ignored plain outside]

/-! ### Reads, one data byte at a time -/

/-- A result code as a byte (R191). -/
theorem readValue_cmdResult : readValue s 0x01#7 = s.port.cmdResult.code := rfl

/-- The rows that read an address of their own, each with it (R109, R122, R124, R159, R161, R187). -/
def readRows : List (Addr × Instr) :=
  [(0x30#7, .resultByte0Read), (0x3F#7, .resultByte15Read), (0x40#7, .eventByte0Read), (0x47#7, .eventByte7Read),
   (0x50#7, .spotByte0Read), (0x0C#7, .snapshotLowByteRead .scansRemaining), (0x0E#7, .snapshotLowByteRead .scanSeq),
   (0x1A#7, .snapshotLowByteRead .liveMc), (0x1D#7, .snapshotLowByteRead .liveWc)]

theorem exec_readRow {p : Addr × Instr} (row : p ∈ readRows) (s : State) : exec p.2 s = .next (readRow p.1 s) := by
  simp only [readRows, List.mem_cons, List.not_mem_nil, or_false] at row
  rcases row with rfl | rfl | rfl | rfl | rfl | rfl | rfl | rfl | rfl <;> rfl

/-- FRAME_END with one data byte more takes the byte and then ends the frame with the rest (R183; log 6). -/
theorem csRises_succ (reading : s.port.frame = .read) (low : s.pins.csLow = true) (n : Nat) :
    csRises (n + 1) s = csRises n (readByte s) := by
  obtain ⟨frame, -, pins⟩ := readByte_port s
  have frame' : (readByte s).port.frame = .read := frame.trans reading
  have low' : (readByte s).pins.csLow = true := (congrArg Pins.csLow pins).trans low
  simp only [csRises, low, low', reading, frame', if_true, readBytes]

/-- Settles O9: the plain read as it is, the map address by address, and the reads ahead through one data byte. -/
theorem plainReadsChangeNothing : Obligations.PlainReadsChangeNothing := by
  refine ⟨fun s a reading plain => ?plain, fun s => ⟨?registers, fun i => ?windows, readValue_event,
    fun a => readValue_hole⟩, fun s a reading => ?ahead⟩
  case plain =>
    show Host.Outcome.next (readRow a s) = _
    rw [readRow_at a s reading, readByte_plain s (reading.2 ▸ plain), reading.2]
  case registers =>
    simp only [List.forall_mem_cons]
    refine ⟨rfl, ?cmdResult, rfl, scanCtrlByte_eq _, byteOf_zero _, byteOf_eq_extract _ 0, byteOf_eq_extract _ 1,
      byteOf_eq_extract _ 0, byteOf_eq_extract _ 1, byteOf_eq_extract _ 1, byteOf_eq_extract _ 1, byteOf_zero _,
      byteOf_zero _, rfl, rfl, byteOf_zero _, sourceByte_eq _, byteOf_eq_extract _ 0, byteOf_eq_extract _ 1,
      byteOf_eq_extract _ 2, byteOf_zero _, byteOf_eq_extract _ 1, byteOf_eq_extract _ 2, byteOf_eq_extract _ 1,
      byteOf_eq_extract _ 2, nofun⟩
    case cmdResult =>
      rw [readValue_cmdResult]
      cases s.port.cmdResult <;> rfl
  case windows => exact ⟨readValue_param i, readValue_result i, readValue_spot i⟩
  case ahead =>
    obtain ⟨frame, pointer, -⟩ := readByte_port s
    have here : readRow a s = readByte s := readRow_at a s reading
    have ahead : ∀ b, b ≠ a → readRow b s = readRow b (readByte s) := fun b other =>
      readRow_next b s reading.1 (reading.2.symm ▸ other)
    refine ⟨readByte s, congrArg Host.Outcome.next here, frame.trans reading.1, pointer.trans (by rw [reading.2]),
      fun n low => congrArg Host.Outcome.next (csRises_succ reading.1 low n), fun p row => ⟨?_, fun other => ?_⟩,
      fun b other => congrArg Host.Outcome.next (ahead b other)⟩
    · rintro rfl
      rw [exec_readRow row, here]
    · rw [exec_readRow row, exec_readRow row, ahead p.1 other]

end Sys2Proof.Machine
end

section
/-! SUPPORT. The resets block by block (R193 to R195), and the frames of the host port with MISO (R182, R184). -/

namespace Sys2Proof.Machine

/-! ### The resets -/

/-- The supply falls from above the threshold: every block takes its hard-reset values (R195). -/
theorem supplyFalls {s : State} (good : s.pins.supplyGood = true) :
    supplyCrosses false s = hardResetValues { s with pins := { s.pins with supplyGood := false } } := by
  have crosses : ¬s.pins.supplyGood = false := ne_false_of_eq_true good
  rw [supplyCrosses, if_neg crosses]
  rfl

/-- Settles O4: both falls are `hardResetValues`, whose values are those written out. -/
theorem hardResetReturnsEveryBlock : Obligations.HardResetReturnsEveryBlock := by
  refine ⟨fun s => ⟨rfl, fun good => ?_⟩, rfl⟩
  exact congrArg Host.Outcome.next (supplyFalls good)

/-- Settles O6: the command's answer is DONE on `engineReset`, whose values are those written out. -/
theorem resetEngineReachesEveryBlock : Obligations.ResetEngineReachesEveryBlock := fun s writing =>
  ⟨engineReset s, commandRow_answer .resetEngine writing rfl, getElem_mapTable LimitSlot.engineReset s.limits, rfl⟩

variable {s : State}

/-! ### Frames -/

/-- CS_N falls on a released part: a frame begins (R182). -/
theorem csFalls_released (high : s.pins.csLow = false) (released : Released s) :
    csFalls s =
      { s with pins := { s.pins with csLow := true }, hostReceived := [],
               port := { s.port with frame := .address, stagedCount := 0, stagedInterval := 0, stagedMaxLow := 0,
                                     stagedMaxMid := 0, misoByte := 0 } } := by
  have outside : ¬({ s with pins := { s.pins with csLow := true } } : State).inReset = true := fun held =>
    (inReset_eq_true _).1 held released
  rw [csFalls, if_neg (Bool.eq_false_iff.1 high)]
  exact if_neg outside

/-- CS_N falls on a part held in reset: the pin alone moves (R194). -/
theorem csFalls_held (high : s.pins.csLow = false) (held : ¬Released s) :
    csFalls s = { s with pins := { s.pins with csLow := true } } := by
  have inside : ({ s with pins := { s.pins with csLow := true } } : State).inReset = true :=
    (inReset_eq_true _).2 held
  rw [csFalls, if_neg (Bool.eq_false_iff.1 high)]
  exact if_pos inside

/-- The address byte sets the direction by its bit 7 and the pointer by the bits below (R182). -/
theorem takeAddress_address (address : s.port.frame = .address) (b : Byte) :
    takeAddress b s =
      { s with port := { s.port with frame := if 128 ≤ b.toNat then .read else .write,
                                     pointer := BitVec.ofNat 7 (b.toNat % 128) } } := by
  have direction : b.getLsbD 7 = decide (128 ≤ b.toNat) := BitVec.msb_eq_decide b
  have start : b.setWidth 7 = BitVec.ofNat 7 (b.toNat % 128) := by bv_omega
  simp only [takeAddress, address, if_true, direction, decide_eq_true_eq, start]

/-- CS_N rises with no further data byte of a read frame: the frame ends (R182). -/
theorem csRises_ends (low : s.pins.csLow = true) {n : Nat} (noReads : n = 0 ∨ s.port.frame ≠ .read) :
    csRises n s = { s with pins := { s.pins with csLow := false }, port := { s.port with frame := .idle } } := by
  have nothing : (if s.port.frame = .read then readBytes n s else s) = s := by
    rcases noReads with rfl | other
    · exact ite_self s
    · exact if_neg other
  simp only [csRises, low, if_true, nothing]

/-! ### MISO -/

theorem miso_write (frame : s.port.frame = .write) : s.miso = some 0#8 := by
  rw [State.miso, frame]
  rfl

theorem miso_read (frame : s.port.frame = .read) : s.miso = some s.port.misoByte := by rw [State.miso, frame]

/-- Settles O8: the two edges of CS_N and the address byte by the pin, the reset and the frame, and MISO by the
frame. -/
theorem framesOpenAndClose : Obligations.FramesOpenAndClose := by
  intro s
  refine ⟨fun high released => ⟨congrArg Host.Outcome.next (csFalls_released high released), rfl⟩,
    fun high held => congrArg Host.Outcome.next (csFalls_held high held),
    fun low => congrArg Host.Outcome.next (if_pos low),
    fun b address => ⟨congrArg Host.Outcome.next (takeAddress_address address b), fun below => ?_⟩,
    fun b other => congrArg Host.Outcome.next (if_neg other),
    fun n low noReads => ⟨congrArg Host.Outcome.next (csRises_ends low noReads), rfl⟩,
    fun n high => congrArg Host.Outcome.next (if_neg (Bool.eq_false_iff.1 high)),
    fun frame => miso_write (s := s.written) frame, fun v frame => miso_read (s := s.read v) frame, fun t run => ?_⟩
  · exact miso_write (if_neg (Nat.not_le_of_lt below))
  · cases run
    rfl

end Sys2Proof.Machine
end

section
/-! SUPPORT. What a step does with the queue of waiting commands: it takes the front, and on an empty queue it idles. -/

namespace Sys2Proof.Machine

variable {s : State}

/-- With a command in front, the step is that command on the state that keeps the rest waiting. -/
theorem step_of_front {c : Instr} {rest : List Instr} (front : s.pending = c :: rest) :
    step s = exec c { s with pending := rest } := by
  rw [step, front]

/-- With nothing waiting the part idles. -/
theorem step_of_empty (empty : s.pending = []) : step s = .next s := by
  rw [step, empty]

/-- Settles O1: a command put in front is taken and leaves the queue as it was before; on an empty queue the part
idles. -/
theorem stepRunsTheFrontCommand : Obligations.StepRunsTheFrontCommand := by
  refine ⟨fun c s => ?_, fun _ empty => step_of_empty empty⟩
  have restored : ({ { s with pending := c :: s.pending } with pending := s.pending } : State) = s := rfl
  rw [step_of_front (s := { s with pending := c :: s.pending }) rfl, restored]

end Sys2Proof.Machine
end
